-- ==== Sys2Proof/Word.lean ====
section
/-! DEFINITION. The words of the FXU. `u_N(p)` of 00_scope.md R16 is `p.toNat`, `s_N(p)` is `p.toInt`, `pat_N(v)` is
`BitVec.ofInt N v`, `zext_N` is `BitVec.setWidth N`; bit 0 is least significant (R15). -/
namespace Sys2Proof

/-- A 64-bit limb of a wide integer (00_scope.md R15, 40_wide_integer.md R100). -/
abbrev Limb := BitVec 64

/-- A 128-bit operand or result port (30_encoding.md R61). -/
abbrev Port := BitVec 128

/-- A 16-bit command word (30_encoding.md R65). -/
abbrev CommandWord := BitVec 16

/-- A 4-bit status code on the response port (30_encoding.md R61). -/
abbrev StatusCode := BitVec 4

/-- A request flattened into one vector (30_encoding.md R60). -/
abbrev RequestBits := BitVec 400

/-- A response flattened into one vector (30_encoding.md R60). -/
abbrev ResponseBits := BitVec 132

end Sys2Proof
end

