-- ==== Sys2Proof/Syntax.lean ====
section
/-! DEFINITION. The syntax of the FXU: the value types (00_scope.md R6), the operations (30_encoding.md R66), the
request (R60), and one constructor of `Instr` per row of spec/opcode_table.json (R70). An instruction is a whole
request: every constructor carries the three operand ports, used or not (R60, R69; log 26). -/
namespace Sys2Proof

/-- The four architectural value types (00_scope.md R6). -/
inductive Ty where
  | uf64
  | f64
  | uf128
  | f128
deriving DecidableEq, Repr

/-- The operations of 30_encoding.md R66. -/
inductive Op where
  | add
  | sub
  | mul
  | div
  | mod
  | fmd
  | sqrt
  | ln
  | exp
  | sin
  | cos
  | tan
  | asin
  | acos
  | atan
  | pow
deriving DecidableEq, Repr

/-- One request, the unit's instruction format: `cmd` and the operands `a`, `b`, `c` (30_encoding.md R60). -/
structure Request where
  cmd : CommandWord
  a : Port
  b : Port
  c : Port
deriving DecidableEq, Repr

/-- The instructions of FXU: the 46 defined command words of 30_encoding.md R70, each with its operand ports. -/
inductive Instr where
  | addUF64 (a b c : Port)
  | addF64 (a b c : Port)
  | addUF128 (a b c : Port)
  | addF128 (a b c : Port)
  | subUF64 (a b c : Port)
  | subF64 (a b c : Port)
  | subUF128 (a b c : Port)
  | subF128 (a b c : Port)
  | mulUF64 (a b c : Port)
  | mulF64 (a b c : Port)
  | mulUF128 (a b c : Port)
  | mulF128 (a b c : Port)
  | divUF64 (a b c : Port)
  | divF64 (a b c : Port)
  | divUF128 (a b c : Port)
  | divF128 (a b c : Port)
  | modUF64 (a b c : Port)
  | modF64 (a b c : Port)
  | modUF128 (a b c : Port)
  | modF128 (a b c : Port)
  | fmdUF64 (a b c : Port)
  | fmdF64 (a b c : Port)
  | fmdUF128 (a b c : Port)
  | fmdF128 (a b c : Port)
  | sqrtUF64 (a b c : Port)
  | sqrtUF128 (a b c : Port)
  | lnUF64 (a b c : Port)
  | lnUF128 (a b c : Port)
  | expF64 (a b c : Port)
  | expF128 (a b c : Port)
  | sinF64 (a b c : Port)
  | sinF128 (a b c : Port)
  | cosF64 (a b c : Port)
  | cosF128 (a b c : Port)
  | tanF64 (a b c : Port)
  | tanF128 (a b c : Port)
  | asinF64 (a b c : Port)
  | asinF128 (a b c : Port)
  | acosF64 (a b c : Port)
  | acosF128 (a b c : Port)
  | atanF64 (a b c : Port)
  | atanF128 (a b c : Port)
  | powUF64 (a b c : Port)
  | powF64 (a b c : Port)
  | powUF128 (a b c : Port)
  | powF128 (a b c : Port)
deriving DecidableEq, Repr

end Sys2Proof
end

