-- ==== Sys2Proof/Machine/Values.lean ====
section
/-! DEFINITION. The constants of the four value types (00_scope.md R6, R7), the result types of LN and EXP
(30_encoding.md R68), and the scale of the working type fix192 (42_fix192_poly.md R170). -/
namespace Sys2Proof

/-- `W(T)` (00_scope.md R6). -/
def Ty.width : Ty → Nat
  | .uf64 => 64
  | .f64 => 64
  | .uf128 => 128
  | .f128 => 128

/-- Whether the type is signed (00_scope.md R6). -/
def Ty.signed : Ty → Bool
  | .uf64 => false
  | .f64 => true
  | .uf128 => false
  | .f128 => true

/-- `S(T)`: 10^8 or 10^24 (00_scope.md R6). -/
def Ty.scale : Ty → Int
  | .uf64 => 100000000
  | .f64 => 100000000
  | .uf128 => 1000000000000000000000000
  | .f128 => 1000000000000000000000000

/-- `MIN(T)` as a raw (00_scope.md R6). -/
def Ty.min : Ty → Int
  | .uf64 => 0
  | .f64 => -9223372036854775808
  | .uf128 => 0
  | .f128 => -170141183460469231731687303715884105728

/-- `MAX(T)` as a raw (00_scope.md R6). -/
def Ty.max : Ty → Int
  | .uf64 => 18446744073709551615
  | .f64 => 9223372036854775807
  | .uf128 => 340282366920938463463374607431768211455
  | .f128 => 170141183460469231731687303715884105727

/-- The signed type of the same width, LN's result type (30_encoding.md R68). -/
def Ty.signedOf : Ty → Ty
  | .uf64 => .f64
  | .f64 => .f64
  | .uf128 => .f128
  | .f128 => .f128

/-- The unsigned type of the same width, EXP's result type (30_encoding.md R68). -/
def Ty.unsignedOf : Ty → Ty
  | .uf64 => .uf64
  | .f64 => .uf64
  | .uf128 => .uf128
  | .f128 => .uf128

/-- `T_out` of an operation on operands of type `T` (30_encoding.md R68). -/
def Op.resultTy (op : Op) (t : Ty) : Ty :=
  match op with
  | .ln => t.signedOf
  | .exp => t.unsignedOf
  | _ => t

/-- `S192 = 2^64 · 10^24`, the scale of fix192 (42_fix192_poly.md R170). -/
def s192 : Int := 18446744073709551616000000000000000000000000

/-- `10^24 / S(T)`: 10^16 for the 64-bit types, 1 for the 128-bit types (42_fix192_poly.md R172). -/
def Ty.lift : Ty → Int
  | .uf64 => 10000000000000000
  | .f64 => 10000000000000000
  | .uf128 => 1
  | .f128 => 1

/-- `D = 2^64 · (10^24 / S(T))`: how many fix192 units one unit of `T` is (42_fix192_poly.md R172, R177). -/
def Ty.unit192 (t : Ty) : Int := t.lift * 18446744073709551616

/-- The least fix192 raw, `−2^191` (42_fix192_poly.md R170). -/
def fix192Min : Int := -3138550867693340381917894711603833208051177722232017256448

/-- The greatest fix192 raw, `2^191 − 1` (42_fix192_poly.md R170). -/
def fix192Max : Int := 3138550867693340381917894711603833208051177722232017256447

/-- Whether an integer is a fix192 raw (42_fix192_poly.md R170). -/
def isFix192 (x : Int) : Bool := decide (fix192Min ≤ x) && decide (x ≤ fix192Max)

end Sys2Proof
end

