-- ==== Sys2Proof/WellFormed.lean ====
section
/-! DEFINITION. What is well formed before the unit computes: the command words that are defined (30_encoding.md
R70), the types each operation admits (R68), and the raws each type holds (00_scope.md R6, R7). An `Instr` has no
ill-formed term: its constructor is a defined command word and every operand pattern is allowed (R62, R69). -/
namespace Sys2Proof

/-- Which operand types an operation admits (30_encoding.md R68). -/
def Op.admits : Op → Ty → Bool
  | .add, _ => true
  | .sub, _ => true
  | .mul, _ => true
  | .div, _ => true
  | .mod, _ => true
  | .fmd, _ => true
  | .sqrt, t => !t.signed
  | .ln, t => !t.signed
  | .exp, t => t.signed
  | .sin, t => t.signed
  | .cos, t => t.signed
  | .tan, t => t.signed
  | .asin, t => t.signed
  | .acos, t => t.signed
  | .atan, t => t.signed
  | .pow, _ => true

/-- The complete map of defined command words, row by row (30_encoding.md R70). -/
def definedCommands : List CommandWord :=
  [0x0000, 0x0020, 0x0040, 0x0060] ++
  [0x0001, 0x0021, 0x0041, 0x0061] ++
  [0x0002, 0x0022, 0x0042, 0x0062] ++
  [0x0003, 0x0023, 0x0043, 0x0063] ++
  [0x0004, 0x0024, 0x0044, 0x0064] ++
  [0x0005, 0x0025, 0x0045, 0x0065] ++
  [0x0008, 0x0048] ++
  [0x0009, 0x0049] ++
  [0x002A, 0x006A] ++
  [0x002B, 0x006B] ++
  [0x002C, 0x006C] ++
  [0x002D, 0x006D] ++
  [0x0030, 0x0070] ++
  [0x0031, 0x0071] ++
  [0x0032, 0x0072] ++
  [0x0013, 0x0033, 0x0053, 0x0073]

/-- A request is well formed when its command word is one of the 46 (30_encoding.md R70, R71); its operands may be
any patterns (R62, R69). -/
def Request.wellFormed (q : Request) : Bool := definedCommands.contains q.cmd

/-- Every instruction is well formed: the operand ports may hold anything (30_encoding.md R62, R69), so there is
nothing to check. Kept so that statements can name it. -/
def Instr.wellFormed : Instr → Bool := fun _ => true

/-- The raw integers of a type: `MIN(T) ≤ v ≤ MAX(T)` (00_scope.md R7). -/
def Ty.holds (t : Ty) (v : Int) : Bool := decide (t.min ≤ v) && decide (v ≤ t.max)

end Sys2Proof
end

