-- ==== Sys2Proof/Decode.lean ====
section
/-! DEFINITION. Decoding and encoding of requests (30_encoding.md R60, R65 to R71). The decoder is total: it answers
an instruction, or says by name which of the three conditions of R71 makes the command word illegal. The encoder
follows in the same file. Responses are laid out in Machine/Operands.lean. -/
namespace Sys2Proof

/-- The three reasons a command word is illegal (30_encoding.md R71). -/
inductive Illegal where
  /-- `cmd[15:7] ≠ 0` (R65). -/
  | zeroField
  /-- `OP` is not in the table of R66. -/
  | reservedOp
  /-- The type is not admitted for the operation (R68). -/
  | typeNotAdmitted
deriving DecidableEq, Repr

/-- Field `ZERO` of a command word, bits 15:7 (30_encoding.md R65). -/
def zeroField (w : CommandWord) : BitVec 9 := w.extractLsb' 7 9

/-- Field `T` of a command word, bits 6:5 (30_encoding.md R65). -/
def typeField (w : CommandWord) : BitVec 2 := w.extractLsb' 5 2

/-- Field `OP` of a command word, bits 4:0 (30_encoding.md R65). -/
def opField (w : CommandWord) : BitVec 5 := w.extractLsb' 0 5

/-- The code of a type (30_encoding.md R67). -/
def Ty.code : Ty → BitVec 2
  | .uf64 => 0
  | .f64 => 1
  | .uf128 => 2
  | .f128 => 3

/-- The type of a code; every code names one (30_encoding.md R67). -/
def Ty.ofCode (x : BitVec 2) : Ty :=
  match x.toNat with
  | 0 => .uf64
  | 1 => .f64
  | 2 => .uf128
  | _ => .f128

/-- The `OP` value of an operation (30_encoding.md R66). -/
def Op.code : Op → BitVec 5
  | .add => 0x00
  | .sub => 0x01
  | .mul => 0x02
  | .div => 0x03
  | .mod => 0x04
  | .fmd => 0x05
  | .sqrt => 0x08
  | .ln => 0x09
  | .exp => 0x0A
  | .sin => 0x0B
  | .cos => 0x0C
  | .tan => 0x0D
  | .asin => 0x10
  | .acos => 0x11
  | .atan => 0x12
  | .pow => 0x13

/-- The operation of an `OP` value; the reserved values have none (30_encoding.md R66). -/
def Op.ofCode (x : BitVec 5) : Option Op :=
  match x.toNat with
  | 0x00 => some .add
  | 0x01 => some .sub
  | 0x02 => some .mul
  | 0x03 => some .div
  | 0x04 => some .mod
  | 0x05 => some .fmd
  | 0x08 => some .sqrt
  | 0x09 => some .ln
  | 0x0A => some .exp
  | 0x0B => some .sin
  | 0x0C => some .cos
  | 0x0D => some .tan
  | 0x10 => some .asin
  | 0x11 => some .acos
  | 0x12 => some .atan
  | 0x13 => some .pow
  | _ => none

/-- The command word of an operation and a type: `(T << 5) | OP` (30_encoding.md R70). -/
def commandWord (op : Op) (t : Ty) : CommandWord :=
  (t.code.setWidth 16 <<< 5) ||| op.code.setWidth 16

/-- How many operands an operation uses, of `a`, then `b`, then `c` (30_encoding.md R66). -/
def Op.arity : Op → Nat
  | .add => 2
  | .sub => 2
  | .mul => 2
  | .div => 2
  | .mod => 2
  | .fmd => 3
  | .sqrt => 1
  | .ln => 1
  | .exp => 1
  | .sin => 1
  | .cos => 1
  | .tan => 1
  | .asin => 1
  | .acos => 1
  | .atan => 1
  | .pow => 2

/-- The instruction of an operation, a type and the three operand ports, where the operation admits the type
(30_encoding.md R68, R70). -/
def assemble (op : Op) (t : Ty) (a b c : Port) : Except Illegal Instr :=
  match op, t with
  | .add, .uf64 => .ok (.addUF64 a b c)
  | .add, .f64 => .ok (.addF64 a b c)
  | .add, .uf128 => .ok (.addUF128 a b c)
  | .add, .f128 => .ok (.addF128 a b c)
  | .sub, .uf64 => .ok (.subUF64 a b c)
  | .sub, .f64 => .ok (.subF64 a b c)
  | .sub, .uf128 => .ok (.subUF128 a b c)
  | .sub, .f128 => .ok (.subF128 a b c)
  | .mul, .uf64 => .ok (.mulUF64 a b c)
  | .mul, .f64 => .ok (.mulF64 a b c)
  | .mul, .uf128 => .ok (.mulUF128 a b c)
  | .mul, .f128 => .ok (.mulF128 a b c)
  | .div, .uf64 => .ok (.divUF64 a b c)
  | .div, .f64 => .ok (.divF64 a b c)
  | .div, .uf128 => .ok (.divUF128 a b c)
  | .div, .f128 => .ok (.divF128 a b c)
  | .mod, .uf64 => .ok (.modUF64 a b c)
  | .mod, .f64 => .ok (.modF64 a b c)
  | .mod, .uf128 => .ok (.modUF128 a b c)
  | .mod, .f128 => .ok (.modF128 a b c)
  | .fmd, .uf64 => .ok (.fmdUF64 a b c)
  | .fmd, .f64 => .ok (.fmdF64 a b c)
  | .fmd, .uf128 => .ok (.fmdUF128 a b c)
  | .fmd, .f128 => .ok (.fmdF128 a b c)
  | .sqrt, .uf64 => .ok (.sqrtUF64 a b c)
  | .sqrt, .f64 => .error .typeNotAdmitted
  | .sqrt, .uf128 => .ok (.sqrtUF128 a b c)
  | .sqrt, .f128 => .error .typeNotAdmitted
  | .ln, .uf64 => .ok (.lnUF64 a b c)
  | .ln, .f64 => .error .typeNotAdmitted
  | .ln, .uf128 => .ok (.lnUF128 a b c)
  | .ln, .f128 => .error .typeNotAdmitted
  | .exp, .uf64 => .error .typeNotAdmitted
  | .exp, .f64 => .ok (.expF64 a b c)
  | .exp, .uf128 => .error .typeNotAdmitted
  | .exp, .f128 => .ok (.expF128 a b c)
  | .sin, .uf64 => .error .typeNotAdmitted
  | .sin, .f64 => .ok (.sinF64 a b c)
  | .sin, .uf128 => .error .typeNotAdmitted
  | .sin, .f128 => .ok (.sinF128 a b c)
  | .cos, .uf64 => .error .typeNotAdmitted
  | .cos, .f64 => .ok (.cosF64 a b c)
  | .cos, .uf128 => .error .typeNotAdmitted
  | .cos, .f128 => .ok (.cosF128 a b c)
  | .tan, .uf64 => .error .typeNotAdmitted
  | .tan, .f64 => .ok (.tanF64 a b c)
  | .tan, .uf128 => .error .typeNotAdmitted
  | .tan, .f128 => .ok (.tanF128 a b c)
  | .asin, .uf64 => .error .typeNotAdmitted
  | .asin, .f64 => .ok (.asinF64 a b c)
  | .asin, .uf128 => .error .typeNotAdmitted
  | .asin, .f128 => .ok (.asinF128 a b c)
  | .acos, .uf64 => .error .typeNotAdmitted
  | .acos, .f64 => .ok (.acosF64 a b c)
  | .acos, .uf128 => .error .typeNotAdmitted
  | .acos, .f128 => .ok (.acosF128 a b c)
  | .atan, .uf64 => .error .typeNotAdmitted
  | .atan, .f64 => .ok (.atanF64 a b c)
  | .atan, .uf128 => .error .typeNotAdmitted
  | .atan, .f128 => .ok (.atanF128 a b c)
  | .pow, .uf64 => .ok (.powUF64 a b c)
  | .pow, .f64 => .ok (.powF64 a b c)
  | .pow, .uf128 => .ok (.powUF128 a b c)
  | .pow, .f128 => .ok (.powF128 a b c)

/-- The operation and the type of a command word (30_encoding.md R65). -/
def decodeCommand (w : CommandWord) : Except Illegal (Op × Ty) :=
  if zeroField w = 0 then
    match Op.ofCode (opField w) with
    | none => .error .reservedOp
    | some op => .ok (op, Ty.ofCode (typeField w))
  else .error .zeroField

/-- The decoder of a request: the command word is judged before any operand is looked at (30_encoding.md R64,
R71). -/
def decodeRequest (q : Request) : Except Illegal Instr :=
  match decodeCommand q.cmd with
  | .error e => .error e
  | .ok (op, t) => assemble op t q.a q.b q.c

/-- The fields of a request flattened into 400 bits: `cmd` in 15:0, `a` in 143:16, `b` in 271:144, `c` in 399:272
(30_encoding.md R60). -/
def Request.ofBits (w : RequestBits) : Request where
  cmd := w.extractLsb' 0 16
  a := w.extractLsb' 16 128
  b := w.extractLsb' 144 128
  c := w.extractLsb' 272 128

/-- The 400-bit flattening of a request (30_encoding.md R60). -/
def Request.toBits (q : Request) : RequestBits := ((q.c ++ q.b) ++ q.a) ++ q.cmd

/-- The decoder on the flattened request. -/
def decodeBits (w : RequestBits) : Except Illegal Instr := decodeRequest (Request.ofBits w)

/-- The instruction the decoder reads from an instruction whose lowest `nbits` bits are `w` and whose other bits are
0, bit 0 least significant (the request of 30_encoding.md R60). -/
def decodeTableWord (nbits w : Nat) : Option Instr :=
  match decodeBits (BitVec.ofNat 400 (w % 2 ^ nbits)) with
  | .ok i => some i
  | .error _ => none

/-- The operation of an instruction. -/
def Instr.op : Instr → Op
  | .addUF64 _ _ _ => .add
  | .addF64 _ _ _ => .add
  | .addUF128 _ _ _ => .add
  | .addF128 _ _ _ => .add
  | .subUF64 _ _ _ => .sub
  | .subF64 _ _ _ => .sub
  | .subUF128 _ _ _ => .sub
  | .subF128 _ _ _ => .sub
  | .mulUF64 _ _ _ => .mul
  | .mulF64 _ _ _ => .mul
  | .mulUF128 _ _ _ => .mul
  | .mulF128 _ _ _ => .mul
  | .divUF64 _ _ _ => .div
  | .divF64 _ _ _ => .div
  | .divUF128 _ _ _ => .div
  | .divF128 _ _ _ => .div
  | .modUF64 _ _ _ => .mod
  | .modF64 _ _ _ => .mod
  | .modUF128 _ _ _ => .mod
  | .modF128 _ _ _ => .mod
  | .fmdUF64 _ _ _ => .fmd
  | .fmdF64 _ _ _ => .fmd
  | .fmdUF128 _ _ _ => .fmd
  | .fmdF128 _ _ _ => .fmd
  | .sqrtUF64 _ _ _ => .sqrt
  | .sqrtUF128 _ _ _ => .sqrt
  | .lnUF64 _ _ _ => .ln
  | .lnUF128 _ _ _ => .ln
  | .expF64 _ _ _ => .exp
  | .expF128 _ _ _ => .exp
  | .sinF64 _ _ _ => .sin
  | .sinF128 _ _ _ => .sin
  | .cosF64 _ _ _ => .cos
  | .cosF128 _ _ _ => .cos
  | .tanF64 _ _ _ => .tan
  | .tanF128 _ _ _ => .tan
  | .asinF64 _ _ _ => .asin
  | .asinF128 _ _ _ => .asin
  | .acosF64 _ _ _ => .acos
  | .acosF128 _ _ _ => .acos
  | .atanF64 _ _ _ => .atan
  | .atanF128 _ _ _ => .atan
  | .powUF64 _ _ _ => .pow
  | .powF64 _ _ _ => .pow
  | .powUF128 _ _ _ => .pow
  | .powF128 _ _ _ => .pow

/-- The operand type of an instruction. -/
def Instr.ty : Instr → Ty
  | .addUF64 _ _ _ => .uf64
  | .addF64 _ _ _ => .f64
  | .addUF128 _ _ _ => .uf128
  | .addF128 _ _ _ => .f128
  | .subUF64 _ _ _ => .uf64
  | .subF64 _ _ _ => .f64
  | .subUF128 _ _ _ => .uf128
  | .subF128 _ _ _ => .f128
  | .mulUF64 _ _ _ => .uf64
  | .mulF64 _ _ _ => .f64
  | .mulUF128 _ _ _ => .uf128
  | .mulF128 _ _ _ => .f128
  | .divUF64 _ _ _ => .uf64
  | .divF64 _ _ _ => .f64
  | .divUF128 _ _ _ => .uf128
  | .divF128 _ _ _ => .f128
  | .modUF64 _ _ _ => .uf64
  | .modF64 _ _ _ => .f64
  | .modUF128 _ _ _ => .uf128
  | .modF128 _ _ _ => .f128
  | .fmdUF64 _ _ _ => .uf64
  | .fmdF64 _ _ _ => .f64
  | .fmdUF128 _ _ _ => .uf128
  | .fmdF128 _ _ _ => .f128
  | .sqrtUF64 _ _ _ => .uf64
  | .sqrtUF128 _ _ _ => .uf128
  | .lnUF64 _ _ _ => .uf64
  | .lnUF128 _ _ _ => .uf128
  | .expF64 _ _ _ => .f64
  | .expF128 _ _ _ => .f128
  | .sinF64 _ _ _ => .f64
  | .sinF128 _ _ _ => .f128
  | .cosF64 _ _ _ => .f64
  | .cosF128 _ _ _ => .f128
  | .tanF64 _ _ _ => .f64
  | .tanF128 _ _ _ => .f128
  | .asinF64 _ _ _ => .f64
  | .asinF128 _ _ _ => .f128
  | .acosF64 _ _ _ => .f64
  | .acosF128 _ _ _ => .f128
  | .atanF64 _ _ _ => .f64
  | .atanF128 _ _ _ => .f128
  | .powUF64 _ _ _ => .uf64
  | .powF64 _ _ _ => .f64
  | .powUF128 _ _ _ => .uf128
  | .powF128 _ _ _ => .f128

/-- The operand port `a` of an instruction. -/
def Instr.portA : Instr → Port
  | .addUF64 x _ _ => x
  | .addF64 x _ _ => x
  | .addUF128 x _ _ => x
  | .addF128 x _ _ => x
  | .subUF64 x _ _ => x
  | .subF64 x _ _ => x
  | .subUF128 x _ _ => x
  | .subF128 x _ _ => x
  | .mulUF64 x _ _ => x
  | .mulF64 x _ _ => x
  | .mulUF128 x _ _ => x
  | .mulF128 x _ _ => x
  | .divUF64 x _ _ => x
  | .divF64 x _ _ => x
  | .divUF128 x _ _ => x
  | .divF128 x _ _ => x
  | .modUF64 x _ _ => x
  | .modF64 x _ _ => x
  | .modUF128 x _ _ => x
  | .modF128 x _ _ => x
  | .fmdUF64 x _ _ => x
  | .fmdF64 x _ _ => x
  | .fmdUF128 x _ _ => x
  | .fmdF128 x _ _ => x
  | .sqrtUF64 x _ _ => x
  | .sqrtUF128 x _ _ => x
  | .lnUF64 x _ _ => x
  | .lnUF128 x _ _ => x
  | .expF64 x _ _ => x
  | .expF128 x _ _ => x
  | .sinF64 x _ _ => x
  | .sinF128 x _ _ => x
  | .cosF64 x _ _ => x
  | .cosF128 x _ _ => x
  | .tanF64 x _ _ => x
  | .tanF128 x _ _ => x
  | .asinF64 x _ _ => x
  | .asinF128 x _ _ => x
  | .acosF64 x _ _ => x
  | .acosF128 x _ _ => x
  | .atanF64 x _ _ => x
  | .atanF128 x _ _ => x
  | .powUF64 x _ _ => x
  | .powF64 x _ _ => x
  | .powUF128 x _ _ => x
  | .powF128 x _ _ => x

/-- The operand port `b` of an instruction. -/
def Instr.portB : Instr → Port
  | .addUF64 _ x _ => x
  | .addF64 _ x _ => x
  | .addUF128 _ x _ => x
  | .addF128 _ x _ => x
  | .subUF64 _ x _ => x
  | .subF64 _ x _ => x
  | .subUF128 _ x _ => x
  | .subF128 _ x _ => x
  | .mulUF64 _ x _ => x
  | .mulF64 _ x _ => x
  | .mulUF128 _ x _ => x
  | .mulF128 _ x _ => x
  | .divUF64 _ x _ => x
  | .divF64 _ x _ => x
  | .divUF128 _ x _ => x
  | .divF128 _ x _ => x
  | .modUF64 _ x _ => x
  | .modF64 _ x _ => x
  | .modUF128 _ x _ => x
  | .modF128 _ x _ => x
  | .fmdUF64 _ x _ => x
  | .fmdF64 _ x _ => x
  | .fmdUF128 _ x _ => x
  | .fmdF128 _ x _ => x
  | .sqrtUF64 _ x _ => x
  | .sqrtUF128 _ x _ => x
  | .lnUF64 _ x _ => x
  | .lnUF128 _ x _ => x
  | .expF64 _ x _ => x
  | .expF128 _ x _ => x
  | .sinF64 _ x _ => x
  | .sinF128 _ x _ => x
  | .cosF64 _ x _ => x
  | .cosF128 _ x _ => x
  | .tanF64 _ x _ => x
  | .tanF128 _ x _ => x
  | .asinF64 _ x _ => x
  | .asinF128 _ x _ => x
  | .acosF64 _ x _ => x
  | .acosF128 _ x _ => x
  | .atanF64 _ x _ => x
  | .atanF128 _ x _ => x
  | .powUF64 _ x _ => x
  | .powF64 _ x _ => x
  | .powUF128 _ x _ => x
  | .powF128 _ x _ => x

/-- The operand port `c` of an instruction. -/
def Instr.portC : Instr → Port
  | .addUF64 _ _ x => x
  | .addF64 _ _ x => x
  | .addUF128 _ _ x => x
  | .addF128 _ _ x => x
  | .subUF64 _ _ x => x
  | .subF64 _ _ x => x
  | .subUF128 _ _ x => x
  | .subF128 _ _ x => x
  | .mulUF64 _ _ x => x
  | .mulF64 _ _ x => x
  | .mulUF128 _ _ x => x
  | .mulF128 _ _ x => x
  | .divUF64 _ _ x => x
  | .divF64 _ _ x => x
  | .divUF128 _ _ x => x
  | .divF128 _ _ x => x
  | .modUF64 _ _ x => x
  | .modF64 _ _ x => x
  | .modUF128 _ _ x => x
  | .modF128 _ _ x => x
  | .fmdUF64 _ _ x => x
  | .fmdF64 _ _ x => x
  | .fmdUF128 _ _ x => x
  | .fmdF128 _ _ x => x
  | .sqrtUF64 _ _ x => x
  | .sqrtUF128 _ _ x => x
  | .lnUF64 _ _ x => x
  | .lnUF128 _ _ x => x
  | .expF64 _ _ x => x
  | .expF128 _ _ x => x
  | .sinF64 _ _ x => x
  | .sinF128 _ _ x => x
  | .cosF64 _ _ x => x
  | .cosF128 _ _ x => x
  | .tanF64 _ _ x => x
  | .tanF128 _ _ x => x
  | .asinF64 _ _ x => x
  | .asinF128 _ _ x => x
  | .acosF64 _ _ x => x
  | .acosF128 _ _ x => x
  | .atanF64 _ _ x => x
  | .atanF128 _ _ x => x
  | .powUF64 _ _ x => x
  | .powF64 _ _ x => x
  | .powUF128 _ _ x => x
  | .powF128 _ _ x => x

/-- The request of an instruction (30_encoding.md R60, R70). -/
def encode (i : Instr) : Request where
  cmd := commandWord i.op i.ty
  a := i.portA
  b := i.portB
  c := i.portC

/-- The 400 bits of an instruction (30_encoding.md R60). -/
def encodeBits (i : Instr) : RequestBits := (encode i).toBits

end Sys2Proof
end

