-- ==== Sys2Proof/Config.lean ====
section
/-! DEFINITION. What is fixed when the unit is built (00_scope.md R10 to R13, 10_state.md R26, R31): the rounding rule
`RMODE`, the error value `ERRVAL`, the constant table `TAB` with the structural requirements of 20_memory.md R45, and
the opaque functions of 43_transcendental.md R220 to R225. `Config.tab` and `Config.opaqueFns` are free values: they
have no body, and nothing is known of them but what their types say. -/
namespace Sys2Proof

/-- The two rounding rules `RMODE` may be (00_scope.md R10, 41_fixed_arith.md R141). -/
inductive RMode where
  | halfUp
  | down
deriving DecidableEq, Repr

/-- The constant table `TAB`, field by field (20_memory.md R44). Coefficient arrays hold the highest degree first. -/
structure Tab where
  /-- `K`, the exponent of the divisor of the fix192 multiply. -/
  k : Nat
  sinCoef : List Int
  expCoef : List Int
  /-- 16 arrays, one per sub-range. -/
  lnCoef : List (List Int)
  /-- 17 edges of the sub-ranges of [1, 2). -/
  lnBounds : List Int
  ln2 : Int
  /-- `EXP_TAB[k]` for `KMIN ≤ k ≤ KMAX`, in order from `KMIN`. -/
  expTab : List Nat
  kMin : Int
  kMax : Int
  minLnF64 : Int
  minLnF128 : Int
  maxLnF64 : Int
  maxLnF128 : Int
  twoPi : Int
  twoPiRes : Nat
  pi : Int
  halfPi : Int
  tanMaxF64 : Int
  tanMaxF128 : Int
deriving DecidableEq, Repr

/-- `MIN_LN_RAW[T]`, by the width of the type (20_memory.md R44). -/
def Tab.minLnRaw (tab : Tab) : Ty → Int
  | .uf64 => tab.minLnF64
  | .f64 => tab.minLnF64
  | .uf128 => tab.minLnF128
  | .f128 => tab.minLnF128

/-- `MAX_LN_RAW[T]`, by the width of the type (20_memory.md R44). -/
def Tab.maxLnRaw (tab : Tab) : Ty → Int
  | .uf64 => tab.maxLnF64
  | .f64 => tab.maxLnF64
  | .uf128 => tab.maxLnF128
  | .f128 => tab.maxLnF128

/-- `TAN_MAX[T]`, by the width of the type (20_memory.md R44). -/
def Tab.tanMax (tab : Tab) : Ty → Int
  | .uf64 => tab.tanMaxF64
  | .f64 => tab.tanMaxF64
  | .uf128 => tab.tanMaxF128
  | .f128 => tab.tanMaxF128

/-- A coefficient array: at least one element (20_memory.md R45 (e)), each a fix192 raw (R44). -/
def coefOk (cs : List Int) : Bool := !cs.isEmpty && cs.all isFix192

/-- Strictly increasing. -/
def strictlyRising : List Int → Bool
  | [] => true
  | [_] => true
  | x :: y :: rest => decide (x < y) && strictlyRising (y :: rest)

/-- `K` is between 1 and 191 (20_memory.md R44). -/
def Tab.kOk (tab : Tab) : Bool := decide (1 ≤ tab.k) && decide (tab.k ≤ 191)

/-- The coefficient arrays have their lengths and ranges (20_memory.md R44, R45 (e)). -/
def Tab.coefsOk (tab : Tab) : Bool :=
  coefOk tab.sinCoef && coefOk tab.expCoef && decide (tab.lnCoef.length = 16) && tab.lnCoef.all coefOk &&
    tab.lnCoef.all fun cs => decide (cs.length = (tab.lnCoef.headD []).length)

/-- `LN_BOUNDS` has 17 strictly increasing entries from `S192` to `2·S192` (20_memory.md R45 (a)). -/
def Tab.boundsOk (tab : Tab) : Bool :=
  decide (tab.lnBounds.length = 17) && decide (tab.lnBounds.getD 0 0 = s192) &&
    decide (tab.lnBounds.getD 16 0 = 2 * s192) && strictlyRising tab.lnBounds && isFix192 tab.ln2

/-- `EXP_TAB` covers `KMIN..KMAX` with naturals below 2^192 (20_memory.md R44). -/
def Tab.expTabOk (tab : Tab) : Bool :=
  decide (tab.kMin ≤ tab.kMax) && decide ((tab.expTab.length : Int) = tab.kMax - tab.kMin + 1) &&
    tab.expTab.all fun x => decide (x < 6277101735386680763835789423207666416102355444464034512896)

/-- The thresholds of EXP are raws of the type, in order, and inside the index range of `EXP_TAB`
(20_memory.md R44, R45 (b), (c)). `/` rounds toward −∞: the divisor is positive. -/
def Tab.thresholdsOk (tab : Tab) (t : Ty) : Bool :=
  decide (t.min ≤ tab.minLnRaw t) && decide (tab.maxLnRaw t ≤ t.max) &&
    decide (tab.minLnRaw t ≤ tab.maxLnRaw t) && decide (tab.kMin ≤ tab.minLnRaw t / t.scale) &&
      decide (tab.maxLnRaw t / t.scale ≤ tab.kMax)

/-- The angle constants (20_memory.md R44, R45 (d)). -/
def Tab.anglesOk (tab : Tab) : Bool :=
  decide (0 < tab.halfPi) && decide (tab.halfPi < tab.pi) && decide (tab.pi < tab.twoPi) && isFix192 tab.twoPi &&
    decide ((tab.twoPi - 2 * tab.pi).natAbs ≤ 1) && decide ((tab.pi - 2 * tab.halfPi).natAbs ≤ 1) &&
      decide (tab.twoPiRes < 18446744073709551616)

/-- The cutoff of TAN is a positive raw of the type (20_memory.md R44). -/
def Tab.tanMaxOk (tab : Tab) (t : Ty) : Bool := decide (0 < tab.tanMax t) && decide (tab.tanMax t ≤ t.max)

/-- A table has the form of 20_memory.md R44 and meets the structural requirements of R45. -/
def Tab.wf (tab : Tab) : Bool :=
  tab.kOk && tab.coefsOk && tab.boundsOk && tab.expTabOk && tab.thresholdsOk .f64 && tab.thresholdsOk .f128 &&
    tab.anglesOk && tab.tanMaxOk .f64 && tab.tanMaxOk .f128

/-- A table that has passed the check of 20_memory.md R45: a unit is built with no other
(93_implementation_defined.md U6). -/
structure CheckedTab where
  table : Tab
  ok : table.wf = true

/-- A small table that meets R44 and R45 and nothing more: it shows that such a table exists. No value of it is
a fact of the unit: `Config.tab` is not known to be this table. -/
def smallTab : Tab where
  k := 1
  sinCoef := [0]
  expCoef := [0]
  lnCoef := List.replicate 16 [0]
  lnBounds := (List.range 17).map fun i => s192 + (i : Int) * 1152921504606846976000000000000000000000000
  ln2 := 0
  expTab := [0]
  kMin := 0
  kMax := 0
  minLnF64 := 0
  minLnF128 := 0
  maxLnF64 := 0
  maxLnF128 := 0
  twoPi := 4
  twoPiRes := 0
  pi := 2
  halfPi := 1
  tanMaxF64 := 1
  tanMaxF128 := 1

theorem smallTab_wf : smallTab.wf = true := by decide

/-- The statuses POW may answer beside OK (43_transcendental.md R225, P-POW-STATUS). -/
inductive PowError where
  | overflow
  | negOverflow
  | underflow
  | divByZero
  | domainError
deriving DecidableEq, Repr

/-- What `POW_FN` returns: the whole (status, value) pair (43_transcendental.md R225). -/
inductive PowOutcome where
  | value (q : Int)
  | error (e : PowError)
deriving DecidableEq, Repr

/-- `ceil(π/2 · S(T))` in raw units (43_transcendental.md R222, R224). -/
def halfPiCeil : Ty → Int
  | .uf64 => 157079633
  | .f64 => 157079633
  | .uf128 => 1570796326794896619231322
  | .f128 => 1570796326794896619231322

/-- `ceil(π · S(T))` in raw units (43_transcendental.md R223). -/
def piCeil : Ty → Int
  | .uf64 => 314159266
  | .f64 => 314159266
  | .uf128 => 3141592653589793238462644
  | .f128 => 3141592653589793238462644

/-- The four configuration functions with the named properties that are stated on raws: P-ASIN-RANGE,
P-ACOS-RANGE, P-ATAN-RANGE and P-POW-RANGE (43_transcendental.md R222 to R225); P-POW-STATUS is the type
`PowOutcome`. The accuracy properties are `AccurateInverses` in Safety.lean (log 9, log 21). -/
structure OpaqueFns where
  asinFn : Ty → Int → Int
  acosFn : Ty → Int → Int
  atanFn : Ty → Int → Int
  powFn : Ty → Int → Int → PowOutcome
  asin_range : ∀ t v, (asinFn t v).natAbs ≤ (halfPiCeil t).natAbs
  acos_range : ∀ t v, 0 ≤ acosFn t v ∧ acosFn t v ≤ piCeil t
  atan_range : ∀ t v, (atanFn t v).natAbs ≤ (halfPiCeil t).natAbs
  pow_range : ∀ t x y q, powFn t x y = .value q → t.min ≤ q ∧ q ≤ t.max

/-- Some functions with those properties: they show that such functions exist. `Config.opaqueFns` is not known to be
these. -/
def smallFns : OpaqueFns where
  asinFn := fun _ _ => 0
  acosFn := fun _ _ => 0
  atanFn := fun _ _ => 0
  powFn := fun _ _ _ => .error .domainError
  asin_range := by intro t v; exact Nat.zero_le _
  acos_range := by intro t v; cases t <;> decide
  atan_range := by intro t v; exact Nat.zero_le _
  pow_range := by intro t x y q h; cases h

/-- FREE VALUE. The table the unit was built with: any that passed the check (00_scope.md R12; log 5). The argument
only shows that there is one. -/
opaque Config.anyTable [Inhabited CheckedTab] : CheckedTab

/-- FREE VALUE. The opaque functions the unit was built with (10_state.md R31; log 9). -/
opaque Config.anyFns [Inhabited OpaqueFns] : OpaqueFns

/-- FREE VALUE. What `rsp_status` carries at a moment when `rsp_valid = 0` (10_state.md R30,
93_implementation_defined.md U3; log 10). -/
opaque Config.undrivenStatus : Nat → StatusCode

/-- FREE VALUE. What `rsp_r` carries at a moment when `rsp_valid = 0` (10_state.md R30,
93_implementation_defined.md U3; log 10). -/
opaque Config.undrivenResult : Nat → Port

/-- FREE VALUE. What the host drives on `rst` at the moment of that number, beyond what State lists (10_state.md R31;
log 1). -/
opaque Config.hostRst : Nat → Bool

/-- FREE VALUE. What the host drives on `req_valid`, beyond what State lists (10_state.md R31; log 1). -/
opaque Config.hostReqValid : Nat → Bool

/-- FREE VALUE. What the host drives on `req_cmd`, `req_a`, `req_b` and `req_c`, flattened as in 30_encoding.md R60,
beyond what State lists (10_state.md R31; log 1). -/
opaque Config.hostReq : Nat → RequestBits

/-- FREE VALUE. What the host drives on `rsp_ready`, beyond what State lists (10_state.md R31; log 1). -/
opaque Config.hostRspReady : Nat → Bool

/-- The checked table of this unit. -/
def Config.checkedTable : CheckedTab := @Config.anyTable ⟨⟨smallTab, smallTab_wf⟩⟩

/-- `TAB` of this unit (00_scope.md R12). -/
def Config.tab : Tab := Config.checkedTable.table

/-- The opaque functions of this unit (10_state.md R31). -/
def Config.opaqueFns : OpaqueFns := @Config.anyFns ⟨smallFns⟩

/-- `RMODE` of this unit: HALF_UP (00_scope.md R10; log 7). -/
def Config.rmode : RMode := .halfUp

/-- `ERRVAL` of this unit: all 128 bits zero (00_scope.md R11; log 8). -/
def Config.errval : Port := 0

/-- The configuration arguments of `EXEC` (30_encoding.md R64, 10_state.md R31). -/
structure Cfg where
  tab : Tab
  rmode : RMode
  errval : Port
  fns : OpaqueFns

/-- The configuration of this unit. -/
def Config.unit : Cfg where
  tab := Config.tab
  rmode := Config.rmode
  errval := Config.errval
  fns := Config.opaqueFns

end Sys2Proof
end

