-- ==== Sys2Proof/Machine/State.lean ====
section
/-! DEFINITION. The state of the machine: the transaction slot (10_state.md R27), which is all the mutable state the
unit has, and beside it the model's own fields: what the host will drive on the input ports, the observation of the
run (70_reset_and_hazards.md R280), and the index of the free values. There is no register, program counter, flag or
memory (R20 to R25). -/
namespace Sys2Proof.Machine

/-- The outcome of an operation, codes 0 to 7 of 60_exceptions.md R240. Codes 8 to 15 are never driven. -/
inductive Status where
  | ok
  | overflow
  | negOverflow
  | underflow
  | divByZero
  | domainError
  | rangeError
  | illegal
deriving DecidableEq, Repr

/-- One response: `status` and `r` (30_encoding.md R60). -/
structure Response where
  status : Status
  r : Port
deriving DecidableEq, Repr

/-- The transaction slot `SLOT` (10_state.md R27). -/
inductive Slot where
  /-- No request is held; the unit is quiescent (70_reset_and_hazards.md R280). -/
  | idle
  /-- A request was accepted and its response was not taken yet. -/
  | pending (status : Status) (r : Port)
deriving DecidableEq, Repr

/-- What the host drives on the input ports at one moment (30_encoding.md R61). `clk` is left out: no rule counts its
edges. -/
structure PortInputs where
  rst : Bool
  reqValid : Bool
  /-- `req_cmd`, `req_a`, `req_b`, `req_c`. -/
  req : Request
  rspReady : Bool
deriving DecidableEq, Repr

/-- The state of the machine. -/
structure State where
  /-- `SLOT`, the unit's one piece of mutable state (10_state.md R27). -/
  slot : Slot
  /-- The model's own: what the host drives on the input ports at the next moments, one entry per step, the next
  first; after them it drives free values (10_state.md R31; log 1). -/
  host : List PortInputs
  /-- The model's own: the requests accepted, in order, less those a reset dropped (70_reset_and_hazards.md R280;
  log 4). -/
  requests : List Request
  /-- The model's own: the responses delivered, in order (70_reset_and_hazards.md R280; log 4). -/
  responses : List Response
  /-- The model's own: how often the ports were sampled, the index of the free values on undriven ports (log 10). -/
  samples : Nat
deriving DecidableEq, Repr

/-- Reasons for which the machine stops. There is none: every error is the status of a response
(60_exceptions.md R246), `EXEC` is total (30_encoding.md R64), and no operation can hang (70_reset_and_hazards.md
R278). Safe: no step is cut short (log 22). -/
inductive Fault where
deriving DecidableEq, Repr

/-- Reasons for which an instruction has no meaning. -/
inductive Refusal where
  /-- Raised only by an arm of `exec` whose instruction has no meaning yet; no arm does. Safe: it stops the run. -/
  | notModelled (mnemonic : String)
deriving DecidableEq, Repr

/-- The machine right after reset: `SLOT = Idle` (10_state.md R30, 70_reset_and_hazards.md R270). What the
host drives is open from the first moment on, and no response was delivered (logs 1, 4, 10). -/
def State.reset : State where
  slot := .idle
  host := []
  requests := []
  responses := []
  samples := 0

end Sys2Proof.Machine
end

