-- ==== Sys2Proof/Machine/Flags.lean ====
section
/-! DEFINITION. Outcomes of operations. The unit has no flags (10_state.md R22): what a processor's flags would say is
the status of a response. Here are the status codes (60_exceptions.md R240), the rounded quotient `RDIV`
(41_fixed_arith.md R141), and the range, rounding and underflow tests of `FINISH` (R142). -/
namespace Sys2Proof.Machine

/-- The error kinds of the taxonomy, codes 1 to 6 of 60_exceptions.md R240. ILLEGAL is not one: it is a verdict on
the command word (30_encoding.md R71). -/
inductive ErrorKind where
  | overflow
  | negOverflow
  | underflow
  | divByZero
  | domainError
  | rangeError
deriving DecidableEq, Repr

/-- How an operation ends: `respond(OK, q)` or `raise <Kind>` (00_scope.md R17). -/
inductive Result where
  | value (q : Int)
  | error (e : ErrorKind)
deriving DecidableEq, Repr

/-- The status of an error kind (60_exceptions.md R240). -/
def ErrorKind.status : ErrorKind → Status
  | .overflow => .overflow
  | .negOverflow => .negOverflow
  | .underflow => .underflow
  | .divByZero => .divByZero
  | .domainError => .domainError
  | .rangeError => .rangeError

/-- The 4-bit code of a status (60_exceptions.md R240). -/
def Status.code : Status → StatusCode
  | .ok => 0
  | .overflow => 1
  | .negOverflow => 2
  | .underflow => 3
  | .divByZero => 4
  | .domainError => 5
  | .rangeError => 6
  | .illegal => 7

/-- The status of a code; codes 8 to 15 are never driven and have none (60_exceptions.md R240,
93_implementation_defined.md U10). -/
def Status.ofCode (x : StatusCode) : Option Status :=
  match x.toNat with
  | 0 => some .ok
  | 1 => some .overflow
  | 2 => some .negOverflow
  | 3 => some .underflow
  | 4 => some .divByZero
  | 5 => some .domainError
  | 6 => some .rangeError
  | 7 => some .illegal
  | _ => none

/-- The rounded quotient of magnitudes (41_fixed_arith.md R141): nearest with a tie going up, or the floor. -/
def roundedMagnitude (m : RMode) (an ad : Nat) : Nat :=
  match m with
  | .halfUp => (2 * an + ad) / (2 * ad)
  | .down => an / ad

/-- `RDIV(n, d)`, `d ≠ 0`: the quotient rounded on magnitudes, with its sign restored (41_fixed_arith.md R141). -/
def rdiv (m : RMode) (n d : Int) : Int :=
  let q : Int := (roundedMagnitude m n.natAbs d.natAbs : Nat)
  if decide (n < 0) = decide (d < 0) then q else -q

/-- The common ending for a positive denominator: range tests on the exact fraction, then rounding, then the
underflow test, which `zeroOk` switches off (41_fixed_arith.md R142, 42_fix192_poly.md R177). -/
def conclude (m : RMode) (t : Ty) (n d : Int) (zeroOk : Bool) : Result :=
  if t.max * d < n then .error .overflow
  else if n < t.min * d then .error .negOverflow
  else if n ≠ 0 ∧ rdiv m n d = 0 ∧ zeroOk = false then .error .underflow
  else .value (rdiv m n d)

/-- `FINISH(T, n, d)`, `d ≠ 0` (41_fixed_arith.md R142). -/
def finish (m : RMode) (t : Ty) (n d : Int) : Result :=
  if d < 0 then conclude m t (-n) (-d) false else conclude m t n d false

end Sys2Proof.Machine
end

