-- ==== Sys2Proof/Machine/Operands.lean ====
section
/-! DEFINITION. Operand decode and result encode (30_encoding.md R62, R63), and the layout of a response (R60). -/
namespace Sys2Proof.Machine

/-- The value of an operand port in type `T`: the low `W(T)` bits, read as unsigned or as two's complement; the bits
above are ignored (30_encoding.md R62, 00_scope.md R8). -/
def operand (t : Ty) (p : Port) : Int :=
  if t.signed then (p.setWidth t.width).toInt else ((p.setWidth t.width).toNat : Int)

/-- The result pattern of an integer in type `T_out`: `W(T_out)` bits, zero-extended to the port
(30_encoding.md R63). -/
def resultPattern (t : Ty) (q : Int) : Port := (BitVec.ofInt t.width q).setWidth 128

/-- `raise <Kind>`, the one way an operation ends in an error: status and `ERRVAL`, nothing else
(00_scope.md R17, 60_exceptions.md R245, R246). -/
def raise (cfg : Cfg) (st : Status) : Response where
  status := st
  r := cfg.errval

/-- `respond(status, v)` with the result encoded in `T_out` (00_scope.md R17, 30_encoding.md R63, R64). -/
def respond (cfg : Cfg) (tOut : Ty) : Result → Response
  | .value q => { status := .ok, r := resultPattern tOut q }
  | .error e => raise cfg e.status

/-- A response flattened into 132 bits: `status` in 3:0, `r` in 131:4 (30_encoding.md R60). -/
def Response.toBits (x : Response) : ResponseBits := x.r ++ x.status.code

/-- The response in 132 bits, where the status code is one the unit drives (30_encoding.md R60, 60_exceptions.md
R240). -/
def Response.ofBits (w : ResponseBits) : Option Response :=
  match Status.ofCode (w.extractLsb' 0 4) with
  | some st => some { status := st, r := w.extractLsb' 4 128 }
  | none => none

end Sys2Proof.Machine
end

