-- ==== Sys2Proof/Machine/Ops.lean ====
section
/-! DEFINITION. The operations on the state: the steps `Accept`, `Deliver` and `Reset` (10_state.md R28), the ports
(30_encoding.md R61), and how the host's inputs are read. There is no trap entry and no return from one
(60_exceptions.md R246, R247): what takes their place is `raise` in Machine/Operands.lean, which an answer carries
into the slot. -/
namespace Sys2Proof.Machine

open Host

/-- What the host drives at the moment of number `n` when State lists nothing for it: free values, for ever, so that
the host's choice has no end (10_state.md R31, 70_reset_and_hazards.md R280; log 1). -/
def PortInputs.free (n : Nat) : PortInputs where
  rst := Config.hostRst n
  reqValid := Config.hostReqValid n
  req := Request.ofBits (Config.hostReq n)
  rspReady := Config.hostRspReady n

/-- What the host drives on the input ports now: the next entry of its list, and free values after the list's end
(10_state.md R31; log 1). -/
def State.inputs (s : State) : PortInputs :=
  match s.host with
  | [] => PortInputs.free s.samples
  | p :: _ => p

/-- The host drives `p` at the next moment, and then goes on as it would have. -/
def State.driven (s : State) (p : PortInputs) : State := { s with host := p :: s.host }

/-- The ports were sampled once: the host moves on to its next entry. -/
def State.sampled (s : State) : State := { s with host := s.host.tail, samples := s.samples + 1 }

/-- Port `req_ready`: 1 exactly when `SLOT = Idle` and `rst = 0` (30_encoding.md R61). -/
def reqReady (s : State) (p : PortInputs) : Bool := decide (s.slot = .idle) && !p.rst

/-- Port `rsp_valid`: 1 exactly when `SLOT = Pending(..)` and `rst = 0` (30_encoding.md R61). -/
def rspValid (s : State) (p : PortInputs) : Bool := decide (s.slot ≠ .idle) && !p.rst

/-- Port `rsp_status`: the code of the pending status while `rsp_valid = 1`, otherwise a free value
(30_encoding.md R61, 10_state.md R30; log 10). -/
def rspStatus (s : State) (p : PortInputs) : StatusCode :=
  match s.slot with
  | .pending st _ => if p.rst then Config.undrivenStatus s.samples else st.code
  | .idle => Config.undrivenStatus s.samples

/-- Port `rsp_r`: the pending result while `rsp_valid = 1`, otherwise a free value (30_encoding.md R61, 10_state.md
R30; log 10). -/
def rspR (s : State) (p : PortInputs) : Port :=
  match s.slot with
  | .pending _ r => if p.rst then Config.undrivenResult s.samples else r
  | .idle => Config.undrivenResult s.samples

/-- The host's record of a request the unit takes (70_reset_and_hazards.md R280; log 4). -/
def State.recordRequest (s : State) (q : Request) : State := { s with requests := s.requests ++ [q] }

/-- `Accept`'s effect on the slot: `SLOT <- Pending(x)`, enabled when `SLOT = Idle`; while a response is pending no
request is accepted and nothing changes (10_state.md R28, 30_encoding.md R61; log 24). -/
def accept (s : State) (x : Response) : Outcome State Fault Refusal :=
  match s.slot with
  | .idle => .next { s with slot := .pending x.status x.r }
  | .pending _ _ => .next s

/-- `Deliver`: the host takes the pending response and `SLOT <- Idle`; with `SLOT = Idle` there is nothing to take
(10_state.md R28). -/
def deliver (s : State) : State :=
  match s.slot with
  | .idle => s
  | .pending st r => { s with slot := .idle, responses := s.responses ++ [{ status := st, r := r }] }

/-- `Reset`: `SLOT <- Idle`; a pending response is dropped and its request counts as not executed (10_state.md R28,
70_reset_and_hazards.md R270, R271; log 4). -/
def resetUnit (s : State) : State :=
  { s with slot := .idle, requests := s.requests.take s.responses.length }

/-- The unit with its slot idle: an idle unit as it is, a pending one after `Reset` (10_state.md R28). -/
def freeSlot (s : State) : State :=
  match s.slot with
  | .idle => s
  | .pending _ _ => resetUnit s

/-- The host presents a request next: `req_valid = 1`, `rst = 0`, `rsp_ready = 0` (30_encoding.md R61). -/
def presentRequest (s : State) (q : Request) : State :=
  s.driven { rst := false, reqValid := true, req := q, rspReady := false }

/-- The answer to an illegal command word (30_encoding.md R64, R71). -/
def illegalResponse (cfg : Cfg) : Response := raise cfg .illegal

/-- The unit is quiescent exactly when `SLOT = Idle` (70_reset_and_hazards.md R280). -/
def State.quiescent (s : State) : Bool := decide (s.slot = .idle)

/-- The observation of a run: the (request, response) pairs delivered, in order (70_reset_and_hazards.md R280). -/
def State.observation (s : State) : List (Request × Response) := s.requests.zip s.responses

end Sys2Proof.Machine
end

