-- ==== Sys2Proof/Machine/Arith.lean ====
section
/-! DEFINITION. ADD, SUB, MUL, DIV, MOD and FMD for the four types (41_fixed_arith.md R143 to R148): the result of
each operation once, over `RMODE` and the type, then one meaning per command word. -/
namespace Sys2Proof.Machine

open Host

/-- ADD: `FINISH(T, A + B, 1)` (41_fixed_arith.md R143). -/
def addResult (m : RMode) (t : Ty) (x y : Int) : Result := finish m t (x + y) 1

/-- SUB: `FINISH(T, A − B, 1)` (41_fixed_arith.md R144). -/
def subResult (m : RMode) (t : Ty) (x y : Int) : Result := finish m t (x - y) 1

/-- MUL: the exact product over the scale (41_fixed_arith.md R145). -/
def mulResult (m : RMode) (t : Ty) (x y : Int) : Result := finish m t (x * y) t.scale

/-- DIV: the zero divisor first, then the rescaled dividend over the divisor (41_fixed_arith.md R146). -/
def divResult (m : RMode) (t : Ty) (x y : Int) : Result :=
  if y = 0 then .error .divByZero else finish m t (x * t.scale) y

/-- MOD: the remainder of truncating division, with the sign of the dividend (41_fixed_arith.md R147). -/
def modResult (x y : Int) : Result :=
  if y = 0 then .error .divByZero else .value (x - y * Int.tdiv x y)

/-- FMD: the zero divisor first, then the exact product over `C` (41_fixed_arith.md R148). -/
def fmdResult (m : RMode) (t : Ty) (x y z : Int) : Result :=
  if z = 0 then .error .divByZero else finish m t (x * y) z

/-- The response to ADD. -/
def respondAdd (cfg : Cfg) (t : Ty) (a b : Port) : Response :=
  respond cfg t (addResult cfg.rmode t (operand t a) (operand t b))

/-- The response to SUB. -/
def respondSub (cfg : Cfg) (t : Ty) (a b : Port) : Response :=
  respond cfg t (subResult cfg.rmode t (operand t a) (operand t b))

/-- The response to MUL. -/
def respondMul (cfg : Cfg) (t : Ty) (a b : Port) : Response :=
  respond cfg t (mulResult cfg.rmode t (operand t a) (operand t b))

/-- The response to DIV. -/
def respondDiv (cfg : Cfg) (t : Ty) (a b : Port) : Response :=
  respond cfg t (divResult cfg.rmode t (operand t a) (operand t b))

/-- The response to MOD. -/
def respondMod (cfg : Cfg) (t : Ty) (a b : Port) : Response :=
  respond cfg t (modResult (operand t a) (operand t b))

/-- The response to FMD. -/
def respondFmd (cfg : Cfg) (t : Ty) (a b c : Port) : Response :=
  respond cfg t (fmdResult cfg.rmode t (operand t a) (operand t b) (operand t c))

/-- ADD.UF64 (R143). -/
def execAddUF64 (a b : Port) (s : State) : Outcome State Fault Refusal :=
  accept s (respondAdd Config.unit .uf64 a b)

/-- ADD.F64 (R143). -/
def execAddF64 (a b : Port) (s : State) : Outcome State Fault Refusal :=
  accept s (respondAdd Config.unit .f64 a b)

/-- ADD.UF128 (R143). -/
def execAddUF128 (a b : Port) (s : State) : Outcome State Fault Refusal :=
  accept s (respondAdd Config.unit .uf128 a b)

/-- ADD.F128 (R143). -/
def execAddF128 (a b : Port) (s : State) : Outcome State Fault Refusal :=
  accept s (respondAdd Config.unit .f128 a b)

/-- SUB.UF64 (R144). -/
def execSubUF64 (a b : Port) (s : State) : Outcome State Fault Refusal :=
  accept s (respondSub Config.unit .uf64 a b)

/-- SUB.F64 (R144). -/
def execSubF64 (a b : Port) (s : State) : Outcome State Fault Refusal :=
  accept s (respondSub Config.unit .f64 a b)

/-- SUB.UF128 (R144). -/
def execSubUF128 (a b : Port) (s : State) : Outcome State Fault Refusal :=
  accept s (respondSub Config.unit .uf128 a b)

/-- SUB.F128 (R144). -/
def execSubF128 (a b : Port) (s : State) : Outcome State Fault Refusal :=
  accept s (respondSub Config.unit .f128 a b)

/-- MUL.UF64 (R145). -/
def execMulUF64 (a b : Port) (s : State) : Outcome State Fault Refusal :=
  accept s (respondMul Config.unit .uf64 a b)

/-- MUL.F64 (R145). -/
def execMulF64 (a b : Port) (s : State) : Outcome State Fault Refusal :=
  accept s (respondMul Config.unit .f64 a b)

/-- MUL.UF128 (R145). -/
def execMulUF128 (a b : Port) (s : State) : Outcome State Fault Refusal :=
  accept s (respondMul Config.unit .uf128 a b)

/-- MUL.F128 (R145). -/
def execMulF128 (a b : Port) (s : State) : Outcome State Fault Refusal :=
  accept s (respondMul Config.unit .f128 a b)

/-- DIV.UF64 (R146). -/
def execDivUF64 (a b : Port) (s : State) : Outcome State Fault Refusal :=
  accept s (respondDiv Config.unit .uf64 a b)

/-- DIV.F64 (R146). -/
def execDivF64 (a b : Port) (s : State) : Outcome State Fault Refusal :=
  accept s (respondDiv Config.unit .f64 a b)

/-- DIV.UF128 (R146). -/
def execDivUF128 (a b : Port) (s : State) : Outcome State Fault Refusal :=
  accept s (respondDiv Config.unit .uf128 a b)

/-- DIV.F128 (R146). -/
def execDivF128 (a b : Port) (s : State) : Outcome State Fault Refusal :=
  accept s (respondDiv Config.unit .f128 a b)

/-- MOD.UF64 (R147). -/
def execModUF64 (a b : Port) (s : State) : Outcome State Fault Refusal :=
  accept s (respondMod Config.unit .uf64 a b)

/-- MOD.F64 (R147). -/
def execModF64 (a b : Port) (s : State) : Outcome State Fault Refusal :=
  accept s (respondMod Config.unit .f64 a b)

/-- MOD.UF128 (R147). -/
def execModUF128 (a b : Port) (s : State) : Outcome State Fault Refusal :=
  accept s (respondMod Config.unit .uf128 a b)

/-- MOD.F128 (R147). -/
def execModF128 (a b : Port) (s : State) : Outcome State Fault Refusal :=
  accept s (respondMod Config.unit .f128 a b)

/-- FMD.UF64 (R148). -/
def execFmdUF64 (a b c : Port) (s : State) : Outcome State Fault Refusal :=
  accept s (respondFmd Config.unit .uf64 a b c)

/-- FMD.F64 (R148). -/
def execFmdF64 (a b c : Port) (s : State) : Outcome State Fault Refusal :=
  accept s (respondFmd Config.unit .f64 a b c)

/-- FMD.UF128 (R148). -/
def execFmdUF128 (a b c : Port) (s : State) : Outcome State Fault Refusal :=
  accept s (respondFmd Config.unit .uf128 a b c)

/-- FMD.F128 (R148). -/
def execFmdF128 (a b c : Port) (s : State) : Outcome State Fault Refusal :=
  accept s (respondFmd Config.unit .f128 a b c)

end Sys2Proof.Machine
end

