-- ==== Sys2Proof/Machine/Opaque.lean ====
section
/-! DEFINITION. ASIN, ACOS, ATAN and POW (43_transcendental.md R222 to R225): their OK values come from configuration
functions of which only the named properties are known (R220; log 9). -/
namespace Sys2Proof.Machine

open Host

/-- ASIN (43_transcendental.md R222). -/
def asinResult (fns : OpaqueFns) (t : Ty) (x : Int) : Result :=
  if t.scale < (x.natAbs : Int) then .error .rangeError else .value (fns.asinFn t x)

/-- ACOS (43_transcendental.md R223). -/
def acosResult (fns : OpaqueFns) (t : Ty) (x : Int) : Result :=
  if t.scale < (x.natAbs : Int) then .error .rangeError else .value (fns.acosFn t x)

/-- ATAN (43_transcendental.md R224). -/
def atanResult (fns : OpaqueFns) (t : Ty) (x : Int) : Result := .value (fns.atanFn t x)

/-- The error kind of a POW error (43_transcendental.md R225, P-POW-STATUS). -/
def powErrorKind : PowError → ErrorKind
  | .overflow => .overflow
  | .negOverflow => .negOverflow
  | .underflow => .underflow
  | .divByZero => .divByZero
  | .domainError => .domainError

/-- POW: the function returns the status as well as the value (43_transcendental.md R225). -/
def powResult (fns : OpaqueFns) (t : Ty) (x y : Int) : Result :=
  match fns.powFn t x y with
  | .value q => .value q
  | .error e => .error (powErrorKind e)

/-- The response to ASIN. -/
def respondAsin (cfg : Cfg) (t : Ty) (a : Port) : Response := respond cfg t (asinResult cfg.fns t (operand t a))

/-- The response to ACOS. -/
def respondAcos (cfg : Cfg) (t : Ty) (a : Port) : Response := respond cfg t (acosResult cfg.fns t (operand t a))

/-- The response to ATAN. -/
def respondAtan (cfg : Cfg) (t : Ty) (a : Port) : Response := respond cfg t (atanResult cfg.fns t (operand t a))

/-- The response to POW: base `a`, exponent `b`. -/
def respondPow (cfg : Cfg) (t : Ty) (a b : Port) : Response :=
  respond cfg t (powResult cfg.fns t (operand t a) (operand t b))

/-- ASIN.F64 (R222). -/
def execAsinF64 (a : Port) (s : State) : Outcome State Fault Refusal :=
  accept s (respondAsin Config.unit .f64 a)

/-- ASIN.F128 (R222). -/
def execAsinF128 (a : Port) (s : State) : Outcome State Fault Refusal :=
  accept s (respondAsin Config.unit .f128 a)

/-- ACOS.F64 (R223). -/
def execAcosF64 (a : Port) (s : State) : Outcome State Fault Refusal :=
  accept s (respondAcos Config.unit .f64 a)

/-- ACOS.F128 (R223). -/
def execAcosF128 (a : Port) (s : State) : Outcome State Fault Refusal :=
  accept s (respondAcos Config.unit .f128 a)

/-- ATAN.F64 (R224). -/
def execAtanF64 (a : Port) (s : State) : Outcome State Fault Refusal :=
  accept s (respondAtan Config.unit .f64 a)

/-- ATAN.F128 (R224). -/
def execAtanF128 (a : Port) (s : State) : Outcome State Fault Refusal :=
  accept s (respondAtan Config.unit .f128 a)

/-- POW.UF64 (R225). -/
def execPowUF64 (a b : Port) (s : State) : Outcome State Fault Refusal :=
  accept s (respondPow Config.unit .uf64 a b)

/-- POW.F64 (R225). -/
def execPowF64 (a b : Port) (s : State) : Outcome State Fault Refusal :=
  accept s (respondPow Config.unit .f64 a b)

/-- POW.UF128 (R225). -/
def execPowUF128 (a b : Port) (s : State) : Outcome State Fault Refusal :=
  accept s (respondPow Config.unit .uf128 a b)

/-- POW.F128 (R225). -/
def execPowF128 (a b : Port) (s : State) : Outcome State Fault Refusal :=
  accept s (respondPow Config.unit .f128 a b)

end Sys2Proof.Machine
end

