-- ==== Sys2Proof/Machine/Fix192.lean ====
section
/-! DEFINITION. The inside of the transcendental engine (42_fix192_poly.md): fix192 arithmetic, narrowing, the
polynomial evaluator, and the range reductions for exp, ln and angles. A fix192 value is its raw integer (R170); a
function that can raise the fix192 overflow signal (R176) answers `none` where it does. On integers, `/` and `%` by a
positive number are the floor quotient and its remainder. -/
namespace Sys2Proof.Machine

/-- The signed upper storage part of a fix192 raw, `X = hi64 · 2^128 + lo128` (42_fix192_poly.md R171). -/
def fix192Hi (x : Int) : BitVec 64 := (BitVec.ofInt 192 x).extractLsb' 128 64

/-- The unsigned lower storage part of a fix192 raw (42_fix192_poly.md R171). -/
def fix192Lo (x : Int) : BitVec 128 := (BitVec.ofInt 192 x).extractLsb' 0 128

/-- The raw of the two storage parts (42_fix192_poly.md R171). -/
def fix192Join (hi : BitVec 64) (lo : BitVec 128) : Int :=
  hi.toInt * 340282366920938463463374607431768211456 + (lo.toNat : Int)

/-- `WIDEN(T, v)` (42_fix192_poly.md R172). -/
def widen (t : Ty) (v : Int) : Int := v * t.unit192

/-- An exact integer kept when it is a fix192 raw; otherwise the fix192 overflow signal (42_fix192_poly.md R173,
R176). -/
def fit192 (z : Int) : Option Int := if isFix192 z then some z else none

/-- `F192ADD(X, Y)` (42_fix192_poly.md R173). -/
def f192Add (x y : Int) : Option Int := fit192 (x + y)

/-- `F192SUB(X, Y)` (42_fix192_poly.md R174). -/
def f192Sub (x y : Int) : Option Int := fit192 (x - y)

/-- `F192MULSH(X, Y)`: the exact product, shifted right by `K`, rounding toward −∞ (42_fix192_poly.md R175). -/
def f192MulSh (k : Nat) (x y : Int) : Option Int := fit192 (x * y / ((2 ^ k : Nat) : Int))

/-- `NARROW(T_out, R, zero_ok)` (42_fix192_poly.md R177). -/
def narrow (m : RMode) (tOut : Ty) (r : Int) (zeroOk : Bool) : Result := conclude m tOut r tOut.unit192 zeroOk

/-- The ending of an operation whose computed value may have met the fix192 overflow signal: the signal answers
Overflow, whatever the sign (42_fix192_poly.md R176, 60_exceptions.md R249). -/
def orSignal (x : Option Int) (k : Int → Result) : Result :=
  match x with
  | none => .error .overflow
  | some r => k r

/-- The Horner loop of `POLY`: the accumulator and the coefficients still to come (42_fix192_poly.md R180). -/
def horner (k : Nat) (x : Int) : Int → List Int → Option Int
  | acc, [] => some acc
  | acc, c :: cs =>
    match f192MulSh k acc x with
    | none => none
    | some p =>
      match f192Add p c with
      | none => none
      | some acc' => horner k x acc' cs

/-- `POLY(C, X)` with the divisor `2^K` (42_fix192_poly.md R180). A table's arrays are not empty (20_memory.md R45
(e)); the empty array, which no unit has, gives 0 (log 14). -/
def poly (k : Nat) (cs : List Int) (x : Int) : Option Int :=
  match cs with
  | [] => some 0
  | c :: rest => horner k x c rest

/-- `k` of `EXPSPLIT(T, A)`: the floor of `A / S(T)` (42_fix192_poly.md R190). -/
def expWhole (t : Ty) (a : Int) : Int := a / t.scale

/-- `F` of `EXPSPLIT(T, A)`: the fraction, widened (42_fix192_poly.md R190). -/
def expFraction (t : Ty) (a : Int) : Int := widen t (a - expWhole t a * t.scale)

/-- `EXP_TAB[k]` (20_memory.md R44). The index is in range for every operand between the thresholds (R41); outside
the range, which no request reaches, 0 (log 14). -/
def expEntry (tab : Tab) (k : Int) : Int := (tab.expTab.getD (k - tab.kMin).toNat 0 : Nat)

/-- How often `n` is halved until it is below `2·S192` (42_fix192_poly.md R191; 48 at most, log 16). -/
def halvings : Nat → Nat → Nat
  | 0, _ => 0
  | fuel + 1, n => if 2 * s192.toNat ≤ n then halvings fuel (n / 2) + 1 else 0

/-- How often `n` is doubled until it is at least `S192` (42_fix192_poly.md R191; 80 at most, log 16). -/
def doublings : Nat → Nat → Nat
  | 0, _ => 0
  | fuel + 1, n => if n < s192.toNat then doublings fuel (2 * n) + 1 else 0

/-- `LNNORM(T, A) = (e, M)`, `A > 0` (42_fix192_poly.md R191). -/
def lnNorm (t : Ty) (a : Int) : Int × Int :=
  let n := (widen t a).toNat
  if s192.toNat ≤ n then
    let e := halvings 48 n
    ((e : Int), ((n / 2 ^ e : Nat) : Int))
  else
    let e := doublings 80 n
    (-(e : Int), ((n * 2 ^ e : Nat) : Int))

/-- The binary search of `LNSELECT`, with the number of comparisons still to make (42_fix192_poly.md R192). -/
def lnSearch (bounds : List Int) (m : Int) : Nat → Nat → Nat → Nat
  | 0, lo, _ => lo
  | fuel + 1, lo, hi =>
    if hi - lo ≤ 1 then lo
    else if bounds.getD ((lo + hi) / 2) 0 ≤ m then lnSearch bounds m fuel ((lo + hi) / 2) hi
    else lnSearch bounds m fuel lo ((lo + hi) / 2)

/-- `LNSELECT(M)`: the sub-range of a mantissa; four comparisons (42_fix192_poly.md R192). -/
def lnSelect (tab : Tab) (m : Int) : Nat := lnSearch tab.lnBounds m 4 0 16

/-- `q` of `REDUCE`: the nearest whole number of turns, a tie away from zero, in every `RMODE`
(42_fix192_poly.md R196). -/
def turns (tab : Tab) (x : Int) : Int := rdiv .halfUp x tab.twoPi

/-- `REDUCE` on a widened angle (42_fix192_poly.md R196). -/
def reduceWide (tab : Tab) (x : Int) : Int :=
  let q := turns tab x
  let y := x - q * tab.twoPi - q * (tab.twoPiRes : Int) / 18446744073709551616
  if tab.pi < y then y - tab.twoPi
  else if y ≤ -tab.pi then y + tab.twoPi
  else y

/-- `REDUCE(T, A)` (42_fix192_poly.md R196). -/
def reduce (tab : Tab) (t : Ty) (a : Int) : Int := reduceWide tab (widen t a)

/-- The fold of `SINCORE` onto the range from −π/2 to π/2 (42_fix192_poly.md R197). -/
def sinFold (tab : Tab) (y : Int) : Int :=
  if tab.halfPi < y then tab.pi - y
  else if y < -tab.halfPi then -tab.pi - y
  else y

/-- `SINCORE(Y)` (42_fix192_poly.md R197). -/
def sinCore (tab : Tab) (y : Int) : Option Int := poly tab.k tab.sinCoef (sinFold tab y)

/-- `Y2` of `COSCORE`: a quarter turn further, back in the range from −π to π (42_fix192_poly.md R198). -/
def cosShift (tab : Tab) (y : Int) : Int :=
  if tab.pi < y + tab.halfPi then y + tab.halfPi - tab.twoPi else y + tab.halfPi

/-- `COSCORE(Y)` (42_fix192_poly.md R198). -/
def cosCore (tab : Tab) (y : Int) : Option Int := sinCore tab (cosShift tab y)

end Sys2Proof.Machine
end

