-- ==== Sys2Proof/Machine/WideInt.lean ====
section
/-! DEFINITION. The wide-integer core (40_wide_integer.md): primitives on 64-bit limbs, limb 0 least significant
(R100). No request selects one (R118); the operations are computed on mathematical integers, and the laws of these
primitives say that a limb-level datapath gives the same results (R101; log 17). -/
namespace Sys2Proof.Machine

/-- Limb `i` of a wide integer (00_scope.md R15, 40_wide_integer.md R100). -/
def limb {w : Nat} (x : BitVec w) (i : Nat) : Limb := x.extractLsb' (64 * i) 64

/-- How many limbs hold `w` bits. -/
def limbCount (w : Nat) : Nat := (w + 63) / 64

/-- The limbs of a wide integer, least significant first (40_wide_integer.md R100). Where the width is no whole number
of limbs, the last limb holds the bits that are left, zero-extended. -/
def limbs {w : Nat} (x : BitVec w) : List Limb := (List.range (limbCount w)).map (limb x)

/-- The unsigned value of limbs, least significant first. -/
def natOfLimbs : List Limb → Nat
  | [] => 0
  | l :: ls => l.toNat + 18446744073709551616 * natOfLimbs ls

/-- The wide integer of limbs, least significant first. -/
def ofLimbs (w : Nat) (ls : List Limb) : BitVec w := BitVec.ofNat w (natOfLimbs ls)

/-- `ADD64C(x, y, cin) -> (sum, cout)` (40_wide_integer.md R102). -/
def add64c (x y : Limb) (cin : Bool) : Limb × Bool :=
  let t := x.toNat + y.toNat + cin.toNat
  (BitVec.ofNat 64 (t % 18446744073709551616), decide (t / 18446744073709551616 = 1))

/-- `SUB64B(x, y, bin) -> (diff, bout)` (40_wide_integer.md R103). -/
def sub64b (x y : Limb) (bin : Bool) : Limb × Bool :=
  let t : Int := (x.toNat : Int) - y.toNat - bin.toNat
  (BitVec.ofInt 64 t, decide (t < 0))

/-- The carry chain of `ADDU_N` over limbs (40_wide_integer.md R104). -/
def addLimbs : List Limb → List Limb → Bool → List Limb × Bool
  | x :: xs, y :: ys, c =>
    let low := add64c x y c
    let high := addLimbs xs ys low.2
    (low.1 :: high.1, high.2)
  | _, _, c => ([], c)

/-- The borrow chain of `SUBU_N` over limbs (40_wide_integer.md R105). -/
def subLimbs : List Limb → List Limb → Bool → List Limb × Bool
  | x :: xs, y :: ys, b =>
    let low := sub64b x y b
    let high := subLimbs xs ys low.2
    (low.1 :: high.1, high.2)
  | _, _, b => ([], b)

/-- `ADDU_N(x, y, cin) -> (sum, cout)` (40_wide_integer.md R104). -/
def addU {w : Nat} (x y : BitVec w) (cin : Bool) : BitVec w × Bool :=
  let r := addLimbs (limbs x) (limbs y) cin
  (ofLimbs w r.1, r.2)

/-- `SUBU_N(x, y, bin) -> (diff, bout)` (40_wide_integer.md R105). -/
def subU {w : Nat} (x y : BitVec w) (bin : Bool) : BitVec w × Bool :=
  let r := subLimbs (limbs x) (limbs y) bin
  (ofLimbs w r.1, r.2)

/-- The direction of a signed overflow: `+1`, `−1` or 0 (40_wide_integer.md R106). -/
def overflowDirection (w : Nat) (t : Int) : Int :=
  if (2 ^ (w - 1) : Nat) - 1 < t then 1
  else if t < -((2 ^ (w - 1) : Nat) : Int) then -1
  else 0

/-- `ADDS_N(x, y) -> (sum, ovf)`, by its integer law (40_wide_integer.md R106). -/
def addS {w : Nat} (x y : BitVec w) : BitVec w × Int :=
  (BitVec.ofInt w (x.toInt + y.toInt), overflowDirection w (x.toInt + y.toInt))

/-- `SUBS_N(x, y) -> (diff, ovf)`, by its integer law (40_wide_integer.md R106). -/
def subS {w : Nat} (x y : BitVec w) : BitVec w × Int :=
  (BitVec.ofInt w (x.toInt - y.toInt), overflowDirection w (x.toInt - y.toInt))

/-- `ADDS_N` at limb level: the sum of `ADDU_N` and the test of the sign bits (40_wide_integer.md R106). -/
def addSLimbs {w : Nat} (x y : BitVec w) : BitVec w × Int :=
  let sum := (addU x y false).1
  (sum, if x.msb = y.msb ∧ x.msb ≠ sum.msb then (if x.msb then -1 else 1) else 0)

/-- `SUBS_N` at limb level: the difference of `SUBU_N` and the test of the sign bits (40_wide_integer.md R106). -/
def subSLimbs {w : Nat} (x y : BitVec w) : BitVec w × Int :=
  let diff := (subU x y false).1
  (diff, if x.msb ≠ y.msb ∧ diff.msb ≠ x.msb then (if x.msb then -1 else 1) else 0)

/-- `MUL64(x, y) -> (hi, lo)` (40_wide_integer.md R107). -/
def mul64 (x y : Limb) : Limb × Limb :=
  let p := x.toNat * y.toNat
  (BitVec.ofNat 64 (p / 18446744073709551616), BitVec.ofNat 64 (p % 18446744073709551616))

/-- `MULC64(x, y, c, acc) -> (cout, lo)`, the multiply-with-carry step (40_wide_integer.md R108). -/
def mulc64 (x y c acc : Limb) : Limb × Limb :=
  let p := x.toNat * y.toNat + c.toNat + acc.toNat
  (BitVec.ofNat 64 (p / 18446744073709551616), BitVec.ofNat 64 (p % 18446744073709551616))

/-- The inner loop of `MULU_N`: one limb of `x` times all of `y`, added to the running product; the last limb is the
carry (40_wide_integer.md R109). -/
def mulRow (x : Limb) : List Limb → List Limb → Limb → List Limb
  | y :: ys, acc :: accs, c =>
    let step := mulc64 x y c acc
    step.2 :: mulRow x ys accs step.1
  | _, _, c => [c]

/-- The outer loop of `MULU_N`: each limb of `x` finishes one limb of the product (40_wide_integer.md R109). -/
def mulLimbs : List Limb → List Limb → List Limb → List Limb
  | [], _, acc => acc
  | x :: xs, ys, acc =>
    match mulRow x ys acc 0 with
    | [] => []
    | low :: rest => low :: mulLimbs xs ys rest

/-- `MULU_N(x, y) -> p`, the full product (40_wide_integer.md R109). -/
def mulU {w : Nat} (x y : BitVec w) : BitVec (2 * w) :=
  ofLimbs (2 * w) (mulLimbs (limbs x) (limbs y) (List.replicate (limbCount w) 0))

/-- `SIGN_N(x)` (40_wide_integer.md R110). -/
def signN {w : Nat} (x : BitVec w) : Int := x.toInt.sign

/-- `NEG_N(x)` and its `ovf` (40_wide_integer.md R110). -/
def negN {w : Nat} (x : BitVec w) : BitVec w × Bool :=
  (BitVec.ofInt w (-x.toInt), decide (x.toInt = -((2 ^ (w - 1) : Nat) : Int)))

/-- `ABS_N(x)`, an unsigned value (40_wide_integer.md R110). -/
def absN {w : Nat} (x : BitVec w) : BitVec w := BitVec.ofNat w x.toInt.natAbs

/-- `MULS_N(x, y) -> p` by sign and magnitude (40_wide_integer.md R111). -/
def mulS {w : Nat} (x y : BitVec w) : BitVec (2 * w) :=
  let m := mulU (absN x) (absN y)
  if 0 ≤ signN x * signN y then m else BitVec.ofInt (2 * w) (-(m.toNat : Int))

/-- `SHL_N(x, s) -> (y, lost)`, `s ≤ N` (40_wide_integer.md R112). -/
def shl {w : Nat} (x : BitVec w) (s : Nat) : BitVec w × BitVec w :=
  let t := x.toNat * 2 ^ s
  (BitVec.ofNat w (t % 2 ^ w), BitVec.ofNat w (t / 2 ^ w))

/-- `SHR_N(x, s) -> y`, `s ≤ N` (40_wide_integer.md R113). -/
def shr {w : Nat} (x : BitVec w) (s : Nat) : BitVec w := BitVec.ofNat w (x.toNat / 2 ^ s)

/-- `SAR_N(x, s) -> y`, `s ≤ N`; `/` by a positive number rounds toward −∞ (40_wide_integer.md R114). -/
def sar {w : Nat} (x : BitVec w) (s : Nat) : BitVec w := BitVec.ofInt w (x.toInt / ((2 ^ s : Nat) : Int))

/-- The order of limbs, most significant first: the first unequal limb decides (40_wide_integer.md R115). -/
def cmpLimbs : List Limb → List Limb → Ordering
  | x :: xs, y :: ys =>
    if x.toNat < y.toNat then .lt else if y.toNat < x.toNat then .gt else cmpLimbs xs ys
  | _, _ => .eq

/-- `CMPU_N(x, y)`, any `N` (40_wide_integer.md R115; log 17). -/
def cmpU {w : Nat} (x y : BitVec w) : Ordering := cmpLimbs (limbs x).reverse (limbs y).reverse

/-- The order of limbs, most significant first, of which the first is a signed value (40_wide_integer.md R115). -/
def cmpLimbsSigned : List Limb → List Limb → Ordering
  | x :: xs, y :: ys =>
    if x.toInt < y.toInt then .lt else if y.toInt < x.toInt then .gt else cmpLimbs xs ys
  | _, _ => .eq

/-- The pattern sign-extended to whole limbs. -/
def signExtendToLimbs {w : Nat} (x : BitVec w) : BitVec (64 * limbCount w) := x.signExtend (64 * limbCount w)

/-- `CMPS_N(x, y)`, any `N`: the most significant limbs as signed values, the rest as unsigned (40_wide_integer.md
R115; log 17). -/
def cmpS {w : Nat} (x y : BitVec w) : Ordering :=
  cmpLimbsSigned (limbs (signExtendToLimbs x)).reverse (limbs (signExtendToLimbs y)).reverse

/-- `UDIVREM(n, d) -> (q, r)`, `d ≠ 0`, by its law: how it is built is not observable (40_wide_integer.md R116;
log 18). -/
def udivrem (n : BitVec 384) (d : BitVec 257) : BitVec 384 × BitVec 257 :=
  (BitVec.ofNat 384 (n.toNat / d.toNat), BitVec.ofNat 257 (n.toNat % d.toNat))

/-- The integer square root bit by bit, from result bit `k − 1` down: a bit stays when the square still fits. -/
def isqrtBits : Nat → Nat → Nat → Nat
  | 0, _, r => r
  | k + 1, n, r => if (r + 2 ^ k) * (r + 2 ^ k) ≤ n then isqrtBits k n (r + 2 ^ k) else isqrtBits k n r

/-- `isqrt(n)` for `n` of at most 208 bits: at most 104 result bits (43_transcendental.md R210,
70_reset_and_hazards.md R278; log 15). -/
def isqrt (n : Nat) : Nat := isqrtBits 104 n 0

end Sys2Proof.Machine
end

