-- ==== Sys2Proof/Machine/Transcendental.lean ====
section
/-! DEFINITION. SQRT, LN, EXP, SIN, COS and TAN (43_transcendental.md R210 to R215): the result of each operation
once, over the table, `RMODE` and the operand type, then one meaning per command word. -/
namespace Sys2Proof.Machine

open Host

/-- SQRT: the integer square root of `A · S(T)`, rounded by `RMODE` (43_transcendental.md R210). -/
def sqrtResult (m : RMode) (t : Ty) (x : Int) : Result :=
  let n := (x * t.scale).toNat
  let r := isqrt n
  match m with
  | .halfUp => .value (((if r < n - r * r then r + 1 else r : Nat)) : Int)
  | .down => .value (r : Int)

/-- LN (43_transcendental.md R211). The result type has the operand's width and is signed (30_encoding.md R68). -/
def lnResult (tab : Tab) (m : RMode) (t : Ty) (x : Int) : Result :=
  if x = 0 then .error .domainError
  else
    let norm := lnNorm t x
    let i := lnSelect tab norm.2
    orSignal (poly tab.k (tab.lnCoef.getD i []) (norm.2 - tab.lnBounds.getD i 0)) fun p =>
      orSignal (f192Add p (norm.1 * tab.ln2)) fun r => narrow m t.signedOf r true

/-- EXP (43_transcendental.md R212). The result type has the operand's width and is unsigned (30_encoding.md R68). -/
def expResult (tab : Tab) (m : RMode) (t : Ty) (x : Int) : Result :=
  if x < tab.minLnRaw t then .error .underflow
  else if tab.maxLnRaw t < x then .error .overflow
  else
    orSignal (poly tab.k tab.expCoef (expFraction t x)) fun p =>
      narrow m t.unsignedOf (p * expEntry tab (expWhole t x) / ((2 ^ tab.k : Nat) : Int)) false

/-- SIN (43_transcendental.md R213). -/
def sinResult (tab : Tab) (m : RMode) (t : Ty) (x : Int) : Result :=
  orSignal (sinCore tab (reduce tab t x)) fun r => narrow m t r true

/-- COS (43_transcendental.md R214). -/
def cosResult (tab : Tab) (m : RMode) (t : Ty) (x : Int) : Result :=
  orSignal (cosCore tab (reduce tab t x)) fun r => narrow m t r true

/-- The end of TAN: the ratio of the two core values, the zero cosine, the cutoff (43_transcendental.md R215). -/
def tanRatio (tab : Tab) (m : RMode) (t : Ty) (sn cs : Int) : Result :=
  if cs = 0 then
    if 0 ≤ sn then .error .overflow else .error .negOverflow
  else if tab.tanMax t * t.unit192 < Int.tdiv (sn * s192) cs then .error .overflow
  else if Int.tdiv (sn * s192) cs < -tab.tanMax t * t.unit192 then .error .negOverflow
  else narrow m t (Int.tdiv (sn * s192) cs) false

/-- TAN (43_transcendental.md R215). -/
def tanResult (tab : Tab) (m : RMode) (t : Ty) (x : Int) : Result :=
  orSignal (sinCore tab (reduce tab t x)) fun sn =>
    orSignal (cosCore tab (reduce tab t x)) fun cs => tanRatio tab m t sn cs

/-- The response to SQRT. -/
def respondSqrt (cfg : Cfg) (t : Ty) (a : Port) : Response :=
  respond cfg t (sqrtResult cfg.rmode t (operand t a))

/-- The response to LN. -/
def respondLn (cfg : Cfg) (t : Ty) (a : Port) : Response :=
  respond cfg t.signedOf (lnResult cfg.tab cfg.rmode t (operand t a))

/-- The response to EXP. -/
def respondExp (cfg : Cfg) (t : Ty) (a : Port) : Response :=
  respond cfg t.unsignedOf (expResult cfg.tab cfg.rmode t (operand t a))

/-- The response to SIN. -/
def respondSin (cfg : Cfg) (t : Ty) (a : Port) : Response :=
  respond cfg t (sinResult cfg.tab cfg.rmode t (operand t a))

/-- The response to COS. -/
def respondCos (cfg : Cfg) (t : Ty) (a : Port) : Response :=
  respond cfg t (cosResult cfg.tab cfg.rmode t (operand t a))

/-- The response to TAN. -/
def respondTan (cfg : Cfg) (t : Ty) (a : Port) : Response :=
  respond cfg t (tanResult cfg.tab cfg.rmode t (operand t a))

/-- SQRT.UF64 (R210). -/
def execSqrtUF64 (a : Port) (s : State) : Outcome State Fault Refusal :=
  accept s (respondSqrt Config.unit .uf64 a)

/-- SQRT.UF128 (R210). -/
def execSqrtUF128 (a : Port) (s : State) : Outcome State Fault Refusal :=
  accept s (respondSqrt Config.unit .uf128 a)

/-- LN.UF64 (R211). -/
def execLnUF64 (a : Port) (s : State) : Outcome State Fault Refusal :=
  accept s (respondLn Config.unit .uf64 a)

/-- LN.UF128 (R211). -/
def execLnUF128 (a : Port) (s : State) : Outcome State Fault Refusal :=
  accept s (respondLn Config.unit .uf128 a)

/-- EXP.F64 (R212). -/
def execExpF64 (a : Port) (s : State) : Outcome State Fault Refusal :=
  accept s (respondExp Config.unit .f64 a)

/-- EXP.F128 (R212). -/
def execExpF128 (a : Port) (s : State) : Outcome State Fault Refusal :=
  accept s (respondExp Config.unit .f128 a)

/-- SIN.F64 (R213). -/
def execSinF64 (a : Port) (s : State) : Outcome State Fault Refusal :=
  accept s (respondSin Config.unit .f64 a)

/-- SIN.F128 (R213). -/
def execSinF128 (a : Port) (s : State) : Outcome State Fault Refusal :=
  accept s (respondSin Config.unit .f128 a)

/-- COS.F64 (R214). -/
def execCosF64 (a : Port) (s : State) : Outcome State Fault Refusal :=
  accept s (respondCos Config.unit .f64 a)

/-- COS.F128 (R214). -/
def execCosF128 (a : Port) (s : State) : Outcome State Fault Refusal :=
  accept s (respondCos Config.unit .f128 a)

/-- TAN.F64 (R215). -/
def execTanF64 (a : Port) (s : State) : Outcome State Fault Refusal :=
  accept s (respondTan Config.unit .f64 a)

/-- TAN.F128 (R215). -/
def execTanF128 (a : Port) (s : State) : Outcome State Fault Refusal :=
  accept s (respondTan Config.unit .f128 a)

end Sys2Proof.Machine
end

