-- ==== Sys2Proof/Machine/Dispatch.lean ====
section
/-! DEFINITION. The dispatch of an accepted request to its meaning: one arm per command word of 30_encoding.md R70.
An operand a request does not use is not passed on (R69). -/
namespace Sys2Proof.Machine

open Host

def exec (i : Instr) (s : State) : Outcome State Fault Refusal :=
  match i with
  | .addUF64 a b _ => Sys2Proof.Machine.execAddUF64 a b s
  | .addF64 a b _ => Sys2Proof.Machine.execAddF64 a b s
  | .addUF128 a b _ => Sys2Proof.Machine.execAddUF128 a b s
  | .addF128 a b _ => Sys2Proof.Machine.execAddF128 a b s
  | .subUF64 a b _ => Sys2Proof.Machine.execSubUF64 a b s
  | .subF64 a b _ => Sys2Proof.Machine.execSubF64 a b s
  | .subUF128 a b _ => Sys2Proof.Machine.execSubUF128 a b s
  | .subF128 a b _ => Sys2Proof.Machine.execSubF128 a b s
  | .mulUF64 a b _ => Sys2Proof.Machine.execMulUF64 a b s
  | .mulF64 a b _ => Sys2Proof.Machine.execMulF64 a b s
  | .mulUF128 a b _ => Sys2Proof.Machine.execMulUF128 a b s
  | .mulF128 a b _ => Sys2Proof.Machine.execMulF128 a b s
  | .divUF64 a b _ => Sys2Proof.Machine.execDivUF64 a b s
  | .divF64 a b _ => Sys2Proof.Machine.execDivF64 a b s
  | .divUF128 a b _ => Sys2Proof.Machine.execDivUF128 a b s
  | .divF128 a b _ => Sys2Proof.Machine.execDivF128 a b s
  | .modUF64 a b _ => Sys2Proof.Machine.execModUF64 a b s
  | .modF64 a b _ => Sys2Proof.Machine.execModF64 a b s
  | .modUF128 a b _ => Sys2Proof.Machine.execModUF128 a b s
  | .modF128 a b _ => Sys2Proof.Machine.execModF128 a b s
  | .fmdUF64 a b c => Sys2Proof.Machine.execFmdUF64 a b c s
  | .fmdF64 a b c => Sys2Proof.Machine.execFmdF64 a b c s
  | .fmdUF128 a b c => Sys2Proof.Machine.execFmdUF128 a b c s
  | .fmdF128 a b c => Sys2Proof.Machine.execFmdF128 a b c s
  | .sqrtUF64 a _ _ => Sys2Proof.Machine.execSqrtUF64 a s
  | .sqrtUF128 a _ _ => Sys2Proof.Machine.execSqrtUF128 a s
  | .lnUF64 a _ _ => Sys2Proof.Machine.execLnUF64 a s
  | .lnUF128 a _ _ => Sys2Proof.Machine.execLnUF128 a s
  | .expF64 a _ _ => Sys2Proof.Machine.execExpF64 a s
  | .expF128 a _ _ => Sys2Proof.Machine.execExpF128 a s
  | .sinF64 a _ _ => Sys2Proof.Machine.execSinF64 a s
  | .sinF128 a _ _ => Sys2Proof.Machine.execSinF128 a s
  | .cosF64 a _ _ => Sys2Proof.Machine.execCosF64 a s
  | .cosF128 a _ _ => Sys2Proof.Machine.execCosF128 a s
  | .tanF64 a _ _ => Sys2Proof.Machine.execTanF64 a s
  | .tanF128 a _ _ => Sys2Proof.Machine.execTanF128 a s
  | .asinF64 a _ _ => Sys2Proof.Machine.execAsinF64 a s
  | .asinF128 a _ _ => Sys2Proof.Machine.execAsinF128 a s
  | .acosF64 a _ _ => Sys2Proof.Machine.execAcosF64 a s
  | .acosF128 a _ _ => Sys2Proof.Machine.execAcosF128 a s
  | .atanF64 a _ _ => Sys2Proof.Machine.execAtanF64 a s
  | .atanF128 a _ _ => Sys2Proof.Machine.execAtanF128 a s
  | .powUF64 a b _ => Sys2Proof.Machine.execPowUF64 a b s
  | .powF64 a b _ => Sys2Proof.Machine.execPowF64 a b s
  | .powUF128 a b _ => Sys2Proof.Machine.execPowUF128 a b s
  | .powF128 a b _ => Sys2Proof.Machine.execPowF128 a b s

end Sys2Proof.Machine
end

