-- ==== Sys2Proof/Machine/Step.lean ====
section
/-! DEFINITION. One step of the machine: the moment at which the unit samples its input ports and takes one of the
steps `Reset`, `Deliver`, `Accept` of 10_state.md R28, or none. -/
namespace Sys2Proof.Machine

open Host

/-- What the unit does with a request it accepts: a defined command word runs its instruction, an illegal one is
answered ILLEGAL (30_encoding.md R64, R71). -/
def takeRequest (q : Request) (s : State) : Outcome State Fault Refusal :=
  match decodeRequest q with
  | .ok i => exec i (s.recordRequest q)
  | .error _ => accept (s.recordRequest q) (illegalResponse Config.unit)

/-- One step. `rst = 1` resets, and accepts and delivers nothing (70_reset_and_hazards.md R270). Otherwise a pending
response is delivered when the host takes it and held unchanged when it does not (R277), and an idle unit accepts the
request the host presents (30_encoding.md R61). -/
def step (s : State) : Outcome State Fault Refusal :=
  if s.inputs.rst then .next (resetUnit s.sampled)
  else
    match s.slot with
    | .pending _ _ => if s.inputs.rspReady then .next (deliver s.sampled) else .next s.sampled
    | .idle => if s.inputs.reqValid then takeRequest s.inputs.req s.sampled else .next s.sampled

/-- The state in which the host presents the request whose lowest `nbits` bits are `w` and whose other bits are 0, and
the unit is idle, so that the next step accepts and runs it. A response still pending is dropped, as `Reset` drops it.
A program always comes from the host, outside the machine (10_state.md R21; log 3). -/
def State.withFetchWord (s : State) (nbits w : Nat) : State :=
  presentRequest (freeSlot s) (Request.ofBits (BitVec.ofNat 400 (w % 2 ^ nbits)))

end Sys2Proof.Machine
end

