-- ==== Sys2Proof/Machine/Exec.lean ====
section
/-! DEFINITION. `EXEC(TAB, RMODE, req)`, the total function every request goes through (30_encoding.md R64), over an
arbitrary configuration. The meanings of the single command words are its values for this unit's configuration. -/
namespace Sys2Proof.Machine

/-- The rule of an operation with a type, on the three operand ports (30_encoding.md R64; R66 says which operands are
used, R69 that the others are ignored). -/
def answer (cfg : Cfg) (op : Op) (t : Ty) (a b c : Port) : Response :=
  match op with
  | .add => respondAdd cfg t a b
  | .sub => respondSub cfg t a b
  | .mul => respondMul cfg t a b
  | .div => respondDiv cfg t a b
  | .mod => respondMod cfg t a b
  | .fmd => respondFmd cfg t a b c
  | .sqrt => respondSqrt cfg t a
  | .ln => respondLn cfg t a
  | .exp => respondExp cfg t a
  | .sin => respondSin cfg t a
  | .cos => respondCos cfg t a
  | .tan => respondTan cfg t a
  | .asin => respondAsin cfg t a
  | .acos => respondAcos cfg t a
  | .atan => respondAtan cfg t a
  | .pow => respondPow cfg t a b

/-- `EXEC(req)`: ILLEGAL for an undefined command word, before any operand is looked at; otherwise the rule of the
operation (30_encoding.md R64). -/
def execRequest (cfg : Cfg) (q : Request) : Response :=
  match decodeRequest q with
  | .error _ => illegalResponse cfg
  | .ok i => answer cfg i.op i.ty i.portA i.portB i.portC

end Sys2Proof.Machine
end

