-- ==== Sys2Proof/Machine/Written.lean ====
section
/-! DEFINITION. The written form of requests (30_encoding.md R74, R75) as syntax trees: what a line of a program
stands for. Reading the text of a line is not modelled (log 25). -/
namespace Sys2Proof.Machine

/-- An operand of a written request (30_encoding.md R74). -/
inductive Literal where
  /-- `#n`, a raw integer. -/
  | raw (n : Int)
  /-- A decimal numeral: `digits / 10^places`, so `1.5` is `numeral 15 1`. -/
  | numeral (digits : Int) (places : Nat)
  | max
  | min
  /-- `%name`, the result pattern of an earlier request, passed on unchanged. -/
  | bound (name : String)
deriving DecidableEq, Repr

/-- The pattern a raw integer drives, when the type holds it (30_encoding.md R74). -/
def rawPattern (t : Ty) (n : Int) : Option Port := if t.holds n then some (resultPattern t n) else none

/-- The operand pattern of a literal, where it is allowed: a raw must be in range, and a numeral times `S(T)` must be
an integer in range (30_encoding.md R74). -/
def Literal.pattern (names : List (String × Port)) (t : Ty) : Literal → Option Port
  | .raw n => rawPattern t n
  | .numeral d k =>
    if d * t.scale % ((10 ^ k : Nat) : Int) = 0 then rawPattern t (d * t.scale / ((10 ^ k : Nat) : Int)) else none
  | .max => rawPattern t t.max
  | .min => rawPattern t t.min
  | .bound x => names.lookup x

/-- One written request: `[%bind =] OP.TYPE args` (30_encoding.md R74). -/
structure Line where
  bind : Option String
  op : Op
  ty : Ty
  args : List Literal
deriving DecidableEq, Repr

/-- The request a line stands for: as many operands as the operation uses, unused ports driven with 0
(30_encoding.md R74). -/
def Line.request (names : List (String × Port)) (l : Line) : Option Request :=
  if l.args.length = l.op.arity then
    match l.args.mapM (Literal.pattern names l.ty) with
    | none => none
    | some ps => some { cmd := commandWord l.op l.ty, a := ps.getD 0 0, b := ps.getD 1 0, c := ps.getD 2 0 }
  else none

/-- What the host holds after the line's response: a bound name is a copy of the result field (30_encoding.md R75). -/
def Line.bindResult (names : List (String × Port)) (l : Line) (x : Response) : List (String × Port) :=
  match l.bind with
  | none => names
  | some n => (n, x.r) :: names

/-- The responses to a program, each line issued after the response to the one before was taken
(95_test_vectors.md section 7); nothing when a line is not a request. -/
def runLines (cfg : Cfg) : List (String × Port) → List Line → Option (List Response)
  | _, [] => some []
  | names, l :: rest =>
    match l.request names with
    | none => none
    | some q =>
      match runLines cfg (l.bindResult names (execRequest cfg q)) rest with
      | none => none
      | some xs => some (execRequest cfg q :: xs)

end Sys2Proof.Machine
end

