-- ==== Sys2Proof/Safety.lean ====
section
/-! DEFINITION. What counts as a good run of the unit, and what the spec requires of a configuration. The unit's
duties (70_reset_and_hazards.md R277, R280) are the invariant `Consistent`. The accuracy of the tables and of the
opaque functions is a requirement on whoever builds the unit (00_scope.md R13, 20_memory.md R46, R47,
43_transcendental.md R230): it is defined here and assumed nowhere (log 21). -/
namespace Sys2Proof.Machine

/-- The response owed to the host, if one is (70_reset_and_hazards.md R280). -/
def owedResponses (s : State) : List Response :=
  match s.slot with
  | .idle => []
  | .pending st r => [{ status := st, r := r }]

/-- Responses come in request order, one for each accepted request that no reset dropped, and each is `EXEC` of its
request; the last one may still be owed (10_state.md R28, R29, 70_reset_and_hazards.md R280). -/
def Consistent (s : State) : Prop :=
  s.requests.map (execRequest Config.unit) = s.responses ++ owedResponses s

/-- No run from a state stops: after any number of steps there is a next state (70_reset_and_hazards.md R278). -/
def NeverStops (s : State) : Prop := ∀ k, ∃ t, Sys2Proof.core.run k s = .next t

/-- An infinite run: from an idle slot on, the host drives `ins n` at moment `n` and the machine takes its step, without
end (70_reset_and_hazards.md R280). The finite runs are its beginnings, and `Sys2Proof.core.run`. -/
structure InfiniteRun (ins : Nat → PortInputs) (ss : Nat → State) : Prop where
  starts : (ss 0).slot = .idle
  moves : ∀ n, step ((ss n).driven (ins n)) = .next (ss (n + 1))

/-- Which statuses an operation may answer, over every table (60_exceptions.md R242; the entries the rule marks "T",
"only with an invalid TAB", are among them). -/
def mayAnswer (op : Op) (t : Ty) (st : Status) : Bool :=
  match op, st with
  | _, .ok => true
  | _, .illegal => false
  | .add, .overflow => true
  | .add, .negOverflow => t.signed
  | .sub, .overflow => t.signed
  | .sub, .negOverflow => true
  | .mul, .overflow => true
  | .mul, .negOverflow => t.signed
  | .mul, .underflow => true
  | .div, .overflow => true
  | .div, .negOverflow => t.signed
  | .div, .underflow => true
  | .div, .divByZero => true
  | .mod, .divByZero => true
  | .fmd, .overflow => true
  | .fmd, .negOverflow => t.signed
  | .fmd, .underflow => true
  | .fmd, .divByZero => true
  | .ln, .overflow => true
  | .ln, .negOverflow => true
  | .ln, .domainError => true
  | .exp, .overflow => true
  | .exp, .negOverflow => true
  | .exp, .underflow => true
  | .sin, .overflow => true
  | .sin, .negOverflow => true
  | .cos, .overflow => true
  | .cos, .negOverflow => true
  | .tan, .overflow => true
  | .tan, .negOverflow => true
  | .tan, .underflow => true
  | .asin, .rangeError => true
  | .acos, .rangeError => true
  | .pow, .overflow => true
  | .pow, .negOverflow => true
  | .pow, .underflow => true
  | .pow, .divByZero => true
  | .pow, .domainError => true
  | _, _ => false

/-- `ACC`, in units of the result type (00_scope.md R13). -/
def accuracyBound : ℝ := 1

/-- An OK result is within `ACC` of a real function of the operand, in raw units of `T_out` (00_scope.md R13). -/
def WithinAccuracy (tOut : Ty) (x : Result) (y : ℝ) : Prop :=
  ∀ q, x = .value q → |(q : ℝ) - y * (tOut.scale : ℝ)| ≤ accuracyBound

/-- A coefficient array holds the coefficients of the real polynomial `p`, highest degree first, folded for the divisor
`2^K` and rounded: `C[n−1−j] ≈ c_j · S192 · (2^K / S192)^j` (20_memory.md R46). -/
def Folds (k : Nat) (cs : List Int) (p : Polynomial ℝ) : Prop :=
  p.natDegree < cs.length ∧ ∀ j : Nat, j < cs.length →
    |((cs.getD (cs.length - 1 - j) 0 : Int) : ℝ) - p.coeff j * (s192 : ℝ) * (2 ^ k / (s192 : ℝ)) ^ j| ≤ 1

/-- The polynomial `p` approximates the function `g` on `d` within one unit of the finest type. R46 leaves the tolerance
to the accuracy property (log 21). -/
def Approximates (p : Polynomial ℝ) (g : ℝ → ℝ) (d : Set ℝ) : Prop :=
  ∀ x ∈ d, |p.eval x - g x| ≤ accuracyBound / (Ty.f128.scale : ℝ)

/-- The fields of a table stand for the real numbers and the polynomials of 20_memory.md R44 and R46. Where R46 says
"≈", the tolerance is one unit of the field (log 21). -/
structure ConstantsMean (tab : Tab) : Prop where
  /-- A polynomial for sin on the folded range. -/
  sinCoef : ∃ p, Folds tab.k tab.sinCoef p ∧ Approximates p Real.sin (Set.Icc (-(Real.pi / 2)) (Real.pi / 2))
  /-- A polynomial for e^f on [0, 1). -/
  expCoef : ∃ p, Folds tab.k tab.expCoef p ∧ Approximates p Real.exp (Set.Ico 0 1)
  /-- For each sub-range a polynomial for ln at the offset from its lower edge (42_fix192_poly.md R192). -/
  lnCoef : ∀ i : Nat, i < 16 → ∃ p, Folds tab.k (tab.lnCoef.getD i []) p ∧
    Approximates p (fun x => Real.log (((tab.lnBounds.getD i 0 : Int) : ℝ) / (s192 : ℝ) + x))
      (Set.Ico 0 (((tab.lnBounds.getD (i + 1) 0 - tab.lnBounds.getD i 0 : Int) : ℝ) / (s192 : ℝ)))
  twoPi : tab.twoPi = ⌊2 * Real.pi * (s192 : ℝ)⌋
  twoPiRes : (tab.twoPiRes : Int) = ⌊(2 * Real.pi * (s192 : ℝ) - tab.twoPi) * 2 ^ 64⌋
  pi : |(tab.pi : ℝ) - Real.pi * s192| ≤ 1
  halfPi : |(tab.halfPi : ℝ) - Real.pi / 2 * s192| ≤ 1
  ln2 : |(tab.ln2 : ℝ) - Real.log 2 * s192| ≤ 1
  expTab : ∀ k : Int, tab.kMin ≤ k → k ≤ tab.kMax →
    |(((tab.expTab.getD (k - tab.kMin).toNat 0 : Nat)) : ℝ) - Real.exp k * 2 ^ tab.k| ≤ 1
  lnBounds : ∀ i : Nat, i ≤ 16 → |((tab.lnBounds.getD i 0 : Int) : ℝ) - (2 : ℝ) ^ ((i : ℝ) / 16) * s192| ≤ 1

/-- What makes a table valid: its form (20_memory.md R45), the meaning of its fields (R46), and the named properties
of the table-dependent operations (43_transcendental.md R230). -/
structure ValidTable (tab : Tab) (m : RMode) : Prop where
  structural : tab.wf = true
  meaning : ConstantsMean tab
  /-- P-ACC of LN. -/
  ln : ∀ t v, t.signed = false → 0 < v → v ≤ t.max →
    WithinAccuracy t.signedOf (lnResult tab m t v) (Real.log ((v : ℝ) / (t.scale : ℝ)))
  /-- P-ACC of EXP. -/
  exp : ∀ t v, t.signed = true → t.min ≤ v → v ≤ t.max →
    WithinAccuracy t.unsignedOf (expResult tab m t v) (Real.exp ((v : ℝ) / (t.scale : ℝ)))
  /-- P-ACC of SIN. -/
  sin : ∀ t v, t.signed = true → t.min ≤ v → v ≤ t.max →
    WithinAccuracy t (sinResult tab m t v) (Real.sin ((v : ℝ) / (t.scale : ℝ)))
  /-- P-ACC of COS. -/
  cos : ∀ t v, t.signed = true → t.min ≤ v → v ≤ t.max →
    WithinAccuracy t (cosResult tab m t v) (Real.cos ((v : ℝ) / (t.scale : ℝ)))
  /-- P-ACC of TAN. -/
  tan : ∀ t v, t.signed = true → t.min ≤ v → v ≤ t.max →
    WithinAccuracy t (tanResult tab m t v) (Real.tan ((v : ℝ) / (t.scale : ℝ)))
  /-- P-NOFIX192OVF on the documented reduced ranges (42_fix192_poly.md R181). -/
  noSignalExp : ∀ x, 0 ≤ x → x < s192 → poly tab.k tab.expCoef x ≠ none
  noSignalLn : ∀ i x, i < 16 → 0 ≤ x → x < tab.lnBounds.getD (i + 1) 0 - tab.lnBounds.getD i 0 →
    poly tab.k (tab.lnCoef.getD i []) x ≠ none
  noSignalSin : ∀ x, -tab.halfPi ≤ x → x ≤ tab.halfPi → poly tab.k tab.sinCoef x ≠ none
  /-- P-STATUS-SET. -/
  lnStatus : ∀ t v, t.signed = false → 0 ≤ v → v ≤ t.max →
    lnResult tab m t v = .error .domainError ∨ ∃ q, lnResult tab m t v = .value q
  expStatus : ∀ t v, t.signed = true → t.min ≤ v → v ≤ t.max → expResult tab m t v ≠ .error .negOverflow
  sinStatus : ∀ t v, t.signed = true → t.min ≤ v → v ≤ t.max → ∃ q, sinResult tab m t v = .value q
  cosStatus : ∀ t v, t.signed = true → t.min ≤ v → v ≤ t.max → ∃ q, cosResult tab m t v = .value q

/-- P-ASIN-ACC, P-ACOS-ACC and P-ATAN-ACC (43_transcendental.md R222 to R224). -/
structure AccurateInverses (fns : OpaqueFns) : Prop where
  asin : ∀ t v, t.signed = true → (v.natAbs : Int) ≤ t.scale →
    |(fns.asinFn t v : ℝ) - Real.arcsin ((v : ℝ) / (t.scale : ℝ)) * t.scale| ≤ accuracyBound
  acos : ∀ t v, t.signed = true → (v.natAbs : Int) ≤ t.scale →
    |(fns.acosFn t v : ℝ) - Real.arccos ((v : ℝ) / (t.scale : ℝ)) * t.scale| ≤ accuracyBound
  atan : ∀ t v, t.signed = true → t.min ≤ v → v ≤ t.max →
    |(fns.atanFn t v : ℝ) - Real.arctan ((v : ℝ) / (t.scale : ℝ)) * t.scale| ≤ accuracyBound

end Sys2Proof.Machine
end

