-- ==== Sys2Proof/Certificates/Slice0/Obligations.lean ====
section
/-! DEFINITION. What is to be proved of the model. The helper predicates below say in the spec's own terms (integers,
inequalities, the true fraction n/d) what a response must be, without calling the functions that compute it. Every
statement about an instruction gives the whole next state, so that it is also its frame: only `slot` changes. -/
namespace Sys2Proof.Machine

/-- From state `s` the instruction completes, and the only thing that changes is that the slot now holds `x`. -/
def Answers (i : Instr) (s : State) (x : Response) : Prop :=
  exec i s = .next { s with slot := .pending x.status x.r }

/-- From state `s` the instruction completes with a response that has the property `P`. -/
def AnswersSome (i : Instr) (s : State) (P : Response → Prop) : Prop := ∃ x, P x ∧ Answers i s x

/-- The same for one instruction of each of the four types. -/
def AnswersInEachType (iu64 i64 iu128 i128 : Instr) (s : State) (P : Ty → Response → Prop) : Prop :=
  AnswersSome iu64 s (P .uf64) ∧ AnswersSome i64 s (P .f64) ∧ AnswersSome iu128 s (P .uf128) ∧
    AnswersSome i128 s (P .f128)

/-- The command words of some instructions. -/
def commandsOf (is : List Instr) : List CommandWord := is.map fun i => (encode i).cmd

/-- The response OK with the result `q` in type `t` (30_encoding.md R63). -/
def okResponse (t : Ty) (q : Int) : Response := { status := .ok, r := resultPattern t q }

/-- The response to an error: the status and `ERRVAL` (60_exceptions.md R245). -/
def errorResponse (st : Status) : Response := { status := st, r := Config.errval }

/-- `q` is the integer nearest to `n / d`, a tie away from zero (41_fixed_arith.md R141, HALF_UP). -/
def NearestAway (n d q : Int) : Prop :=
  2 * (n - q * d).natAbs ≤ d.natAbs ∧ (2 * (n - q * d).natAbs = d.natAbs → n.natAbs < (q * d).natAbs)

/-- `q` is `n / d` with its fraction dropped (41_fixed_arith.md R141, DOWN). -/
def TowardZero (n d q : Int) : Prop :=
  (n - q * d).natAbs < d.natAbs ∧ (q * d).natAbs ≤ n.natAbs ∧ 0 ≤ n * d * q

/-- `q` is `n / d` rounded by `RMODE` (41_fixed_arith.md R141). -/
def RoundsTo (m : RMode) (n d q : Int) : Prop :=
  match m with
  | .halfUp => NearestAway n d q
  | .down => TowardZero n d q

/-- The response to a computed value of `n / d` raw units, `d > 0`, under HALF_UP: the range tests on the exact
fraction, then the underflow test 0 < |n/d| < 1/2 unless it is switched off, then the nearest integer
(41_fixed_arith.md R142, 42_fix192_poly.md R177, 60_exceptions.md R241). -/
def Concluded (t : Ty) (n d : Int) (zeroOk : Bool) (x : Response) : Prop :=
  if t.max * d < n then x = errorResponse .overflow
  else if n < t.min * d then x = errorResponse .negOverflow
  else if n ≠ 0 ∧ 2 * (n.natAbs : Int) < d ∧ zeroOk = false then x = errorResponse .underflow
  else ∃ q, NearestAway n d q ∧ x = okResponse t q

/-- The same for a denominator of either sign (41_fixed_arith.md R142). -/
def Finished (t : Ty) (n d : Int) (x : Response) : Prop :=
  if d < 0 then Concluded t (-n) (-d) false x else Concluded t n d false x

/-- A value that may have met the fix192 overflow signal: the signal answers Overflow (42_fix192_poly.md R176). -/
def OrOverflow (v : Option Int) (P : Int → Response → Prop) (x : Response) : Prop :=
  match v with
  | none => x = errorResponse .overflow
  | some r => P r x

/-- `y` is the widened angle `x` less the nearest whole number of turns, corrected by the residual and brought into the
half-open interval from −π to π (42_fix192_poly.md R196). -/
def Reduced (tab : Tab) (x y : Int) : Prop :=
  ∃ q y0, NearestAway x tab.twoPi q ∧
    y0 = x - q * tab.twoPi - q * (tab.twoPiRes : Int) / 18446744073709551616 ∧
      y = if tab.pi < y0 then y0 - tab.twoPi else if y0 ≤ -tab.pi then y0 + tab.twoPi else y0

/-- `z` is the angle `y` folded onto the range from −π/2 to π/2 (42_fix192_poly.md R197). -/
def Folded (tab : Tab) (y z : Int) : Prop :=
  z = if tab.halfPi < y then tab.pi - y else if y < -tab.halfPi then -tab.pi - y else y

/-- `z` is the angle `y` a quarter turn further, less a turn where that is above π (42_fix192_poly.md R198). -/
def QuarterTurned (tab : Tab) (y z : Int) : Prop :=
  z = if tab.pi < y + tab.halfPi then y + tab.halfPi - tab.twoPi else y + tab.halfPi

/-- The relations between the angle constants that 20_memory.md R45 (d) asks for. -/
def AnglesRelated (tab : Tab) : Prop :=
  0 < tab.halfPi ∧ tab.halfPi < tab.pi ∧ tab.pi < tab.twoPi ∧ (tab.twoPi - 2 * tab.pi).natAbs ≤ 1 ∧
    (tab.pi - 2 * tab.halfPi).natAbs ≤ 1

/-- The exact intermediate values of the Horner loop, in the order they are computed: the shifted product, then the
sum, for each coefficient (42_fix192_poly.md R175, R180). -/
def hornerTrace (k : Nat) (x : Int) : Int → List Int → List Int
  | _, [] => []
  | acc, c :: cs =>
    acc * x / ((2 ^ k : Nat) : Int) :: (acc * x / ((2 ^ k : Nat) : Int) + c) ::
      hornerTrace k x (acc * x / ((2 ^ k : Nat) : Int) + c) cs

/-- `n` is scaled by a power of two to a mantissa in [1, 2): `S192 · 2^e ≤ n < S192 · 2^(e+1)` for the exponent `e`,
of either sign, and `m` is `n / 2^e`, floored when `e ≥ 0` (42_fix192_poly.md R191). -/
def NormalisedBy (n e m : Int) : Prop :=
  (∃ k : Nat, e = k ∧ s192 * ((2 ^ k : Nat) : Int) ≤ n ∧ n < s192 * ((2 ^ (k + 1) : Nat) : Int) ∧
    m = n / ((2 ^ k : Nat) : Int)) ∨
  (∃ k : Nat, 0 < k ∧ e = -(k : Int) ∧ s192 ≤ n * ((2 ^ k : Nat) : Int) ∧ n * ((2 ^ k : Nat) : Int) < 2 * s192 ∧
    m = n * ((2 ^ k : Nat) : Int))

/-- Everything the response of an operation may depend on: which operand ports agree in the bits the operation uses
(30_encoding.md R62, R69). -/
def SameUsedOperands (i j : Instr) : Prop :=
  operand i.ty i.portA = operand i.ty j.portA ∧
    (2 ≤ i.op.arity → operand i.ty i.portB = operand i.ty j.portB) ∧
      (3 ≤ i.op.arity → operand i.ty i.portC = operand i.ty j.portC)

end Sys2Proof.Machine

open Sys2Proof Sys2Proof.Machine

/-! ## Encoding and decoding -/

/-- 30_encoding.md R60, R65 to R70: decoding the 400 bits of an instruction gives the instruction back, with every
operand at every value, and encoding what was decoded gives the bits back: no bit is dropped. Each field of a request
stands at its own bits of the 400. -/
def Obligations.EncodeThenDecodeAndBack : Prop :=
  (∀ i : Instr, i.wellFormed = true → decodeBits (encodeBits i) = .ok i) ∧
  (∀ (w : RequestBits) (i : Instr), decodeBits w = .ok i → encodeBits i = w) ∧
  (∀ (w : RequestBits) (i : Instr), decodeBits w = .ok i →
    w.extractLsb' 0 16 = commandWord i.op i.ty ∧ w.extractLsb' 16 128 = i.portA ∧
      w.extractLsb' 144 128 = i.portB ∧ w.extractLsb' 272 128 = i.portC) ∧
  ∀ q : Request, q.toBits.toNat =
    q.cmd.toNat + 2 ^ 16 * q.a.toNat + 2 ^ 144 * q.b.toNat + 2 ^ 272 * q.c.toNat

/-- 30_encoding.md R71: which command words are illegal, that 46 are not, and what the unit does with one. The record
`requests` and the counter `samples` are the model's own (logs 4, 10). -/
def Obligations.IllegalCommandIsAnsweredIllegal : Prop :=
  (∀ q : Request, (∃ e, decodeRequest q = .error e) ↔
    (zeroField q.cmd ≠ 0 ∨ Op.ofCode (opField q.cmd) = none ∨
      ∃ op, Op.ofCode (opField q.cmd) = some op ∧ op.admits (Ty.ofCode (typeField q.cmd)) = false)) ∧
  (∀ q : Request, (∃ i, decodeRequest q = .ok i) ↔ q.cmd ∈ definedCommands) ∧
  definedCommands.Nodup ∧ definedCommands.length = 46 ∧ 65536 - definedCommands.length = 65490 ∧
  (∀ (s : State) (e : Illegal), s.slot = .idle → s.inputs.rst = false → s.inputs.reqValid = true →
    decodeRequest s.inputs.req = .error e →
      step s = .next { s with slot := .pending .illegal Config.errval, host := s.host.tail,
                              requests := s.requests ++ [s.inputs.req], samples := s.samples + 1 }) ∧
  (∀ (s : State) (r : Port), s.slot = .pending .illegal r → s.inputs.rst = false → s.inputs.rspReady = true →
    ∃ t, step s = .next t ∧ ∀ p : PortInputs, p.rst = false → reqReady t p = true)

/-- 30_encoding.md R70, R60: words written out from the table decode to the instruction they stand for, and reserved
words to none; the operands `a`, `b`, `c` of a whole request follow the command word from the lowest bit up. -/
def Obligations.WordsOfTheTableDecode : Prop :=
  decodeTableWord 16 0x0000 = some (.addUF64 0 0 0) ∧ decodeTableWord 16 0x0021 = some (.subF64 0 0 0) ∧
  decodeTableWord 16 0x0042 = some (.mulUF128 0 0 0) ∧ decodeTableWord 16 0x0063 = some (.divF128 0 0 0) ∧
  decodeTableWord 16 0x0024 = some (.modF64 0 0 0) ∧ decodeTableWord 16 0x0065 = some (.fmdF128 0 0 0) ∧
  decodeTableWord 16 0x0048 = some (.sqrtUF128 0 0 0) ∧ decodeTableWord 16 0x0009 = some (.lnUF64 0 0 0) ∧
  decodeTableWord 16 0x006A = some (.expF128 0 0 0) ∧ decodeTableWord 16 0x002D = some (.tanF64 0 0 0) ∧
  decodeTableWord 16 0x0071 = some (.acosF128 0 0 0) ∧ decodeTableWord 16 0x0053 = some (.powUF128 0 0 0) ∧
  decodeTableWord 16 0x0006 = none ∧ decodeTableWord 16 0x0028 = none ∧ decodeTableWord 16 0x0080 = none ∧
  decodeTableWord 400
    0x00000000000000000000000000000003_00000000000000000000000000000002_00000000000000000000000000000001_0065 =
      some (.fmdF128 1 2 3)

/-- 10_state.md R28, 30_encoding.md R61, R64: when the unit is idle and the host presents a request that decodes to
`i`, one step is `exec` of `i`, after the ports were sampled and the host's record of requests has grown by the
request. `withFetchWord` makes the next step that of the word's instruction. That a step is a sampling of the ports, and
the record of requests, are the model's choices (logs 1, 2, 3, 4). -/
def Obligations.StepRunsTheDecodedInstruction : Prop :=
  (∀ (s : State) (i : Instr), s.slot = .idle → s.inputs.rst = false → s.inputs.reqValid = true →
    decodeRequest s.inputs.req = .ok i →
      step s = exec i { s with host := s.host.tail, requests := s.requests ++ [s.inputs.req],
                               samples := s.samples + 1 }) ∧
  ∀ (s : State) (nbits w : Nat) (i : Instr), s.slot = .idle → decodeTableWord nbits w = some i →
    step (s.withFetchWord nbits w) =
      exec i { s with requests := s.requests ++ [Request.ofBits (BitVec.ofNat 400 (w % 2 ^ nbits))],
                      samples := s.samples + 1 }

/-- 30_encoding.md R62: the operand of a port is the unsigned or two's-complement value of its low `W(T)` bits. -/
def Obligations.OperandIsTheValueOfTheLowBits : Prop :=
  ∀ (t : Ty) (p : Port), t.min ≤ operand t p ∧ operand t p ≤ t.max ∧
    operand t p % ((2 ^ t.width : Nat) : Int) = (p.toNat : Int) % ((2 ^ t.width : Nat) : Int)

/-- 30_encoding.md R63: a result in range is zero-extended to the port, and reads back as the same integer when it is
passed on as an operand. -/
def Obligations.ResultIsZeroExtendedAndReadsBack : Prop :=
  ∀ (t : Ty) (q : Int), t.min ≤ q → q ≤ t.max →
    resultPattern t q = (BitVec.ofInt t.width q).setWidth 128 ∧ (resultPattern t q).toNat < 2 ^ t.width ∧
      operand t (resultPattern t q) = q

/-- 30_encoding.md R69: operands an operation does not use, and by R62 the bits above a 64-bit operand, do not affect
the response: two instructions of the same operation and type that agree in what is used do the same. -/
def Obligations.UnusedOperandBitsDoNotMatter : Prop :=
  ∀ (i j : Instr) (s : State), i.op = j.op → i.ty = j.ty → SameUsedOperands i j → exec i s = exec j s

/-- 60_exceptions.md R240 and 30_encoding.md R60: the status codes, and that the 132 bits of a response read back. -/
def Obligations.StatusCodesAndResponseLayout : Prop :=
  [Status.ok, .overflow, .negOverflow, .underflow, .divByZero, .domainError, .rangeError, .illegal].map Status.code =
      [0, 1, 2, 3, 4, 5, 6, 7] ∧
    (∀ c : StatusCode, 8 ≤ c.toNat → Status.ofCode c = none) ∧
    (∀ x : Response, Response.ofBits x.toBits = some x) ∧
    ∀ x : Response, x.toBits.extractLsb' 0 4 = x.status.code ∧ x.toBits.extractLsb' 4 128 = x.r

/-! ## The steps of the unit -/

/-- 10_state.md R28: `Accept`, `Deliver`, `Reset`, each with its effect, and nothing else changes the slot. The fields
beside the slot are the model's own (logs 1, 4, 10), and so is that `rst` stops the other steps (log 19). -/
def Obligations.AcceptDeliverResetAndNothingElse : Prop :=
  (∀ s : State, s.inputs.rst = false → s.slot = .idle → s.inputs.reqValid = true →
    step s = .next { slot := .pending (execRequest Config.unit s.inputs.req).status
                               (execRequest Config.unit s.inputs.req).r,
                     host := s.host.tail, requests := s.requests ++ [s.inputs.req], responses := s.responses,
                     samples := s.samples + 1 }) ∧
  (∀ (s : State) (st : Status) (r : Port), s.inputs.rst = false → s.slot = .pending st r →
    s.inputs.rspReady = true →
      step s = .next { slot := .idle, host := s.host.tail, requests := s.requests,
                       responses := s.responses ++ [{ status := st, r := r }], samples := s.samples + 1 }) ∧
  (∀ s : State, s.inputs.rst = true →
    ∃ t, step s = .next t ∧ t.slot = .idle ∧ t.responses = s.responses ∧ t.host = s.host.tail) ∧
  (∀ s : State, s.inputs.rst = false → (s.slot = .idle → s.inputs.reqValid = false) →
    (s.slot ≠ .idle → s.inputs.rspReady = false) →
      step s = .next { s with host := s.host.tail, samples := s.samples + 1 })

/-- 70_reset_and_hazards.md R270: while `rst = 1` the slot becomes idle, both handshakes are off, no request is
accepted and no response delivered; when `rst` is 0 again the unit is idle and takes a request. What becomes of the
record of requests is the model's choice (log 4). -/
def Obligations.ResetInputForcesIdle : Prop :=
  ∀ s : State, s.inputs.rst = true →
    reqReady s s.inputs = false ∧ rspValid s s.inputs = false ∧
      ∃ t, step s = .next t ∧ t.slot = .idle ∧ t.responses = s.responses ∧ t.requests <+: s.requests ∧
        ∀ p : PortInputs, p.rst = false → reqReady t p = true

/-- 70_reset_and_hazards.md R271: a request accepted and not answered when `rst` rises is lost, and re-issuing it after
the reset gives the response it would have given. That the record of requests forgets it is the model's choice
(log 4). -/
def Obligations.PendingRequestIsLostAtReset : Prop :=
  ∀ (s : State) (st : Status) (r : Port) (qs : List Request) (q : Request), Consistent s →
    s.slot = .pending st r → s.requests = qs ++ [q] → s.inputs.rst = true →
      ∃ t, step s = .next t ∧ t.slot = .idle ∧ t.requests = qs ∧ t.responses = s.responses ∧
        ∃ u, step (presentRequest t q) = .next u ∧ u.slot = .pending st r

/-- 70_reset_and_hazards.md R277: a response is not withdrawn or changed until it is delivered or reset; a request that
is accepted has its response at the next moment; and a response is never asserted without an `Accept` before. That the
response is there at once is the model's choice: the spec gives no `LATENCY` (log 2). -/
def Obligations.HeldResponseIsStable : Prop :=
  (∀ (s : State) (st : Status) (r : Port), s.slot = .pending st r → s.inputs.rst = false →
    s.inputs.rspReady = false →
      ∃ t, step s = .next t ∧ ∀ p : PortInputs, p.rst = false →
        rspValid t p = true ∧ rspStatus t p = rspStatus s s.inputs ∧ rspR t p = rspR s s.inputs) ∧
  (∀ s : State, reqReady s s.inputs = true → s.inputs.reqValid = true →
    ∃ t, step s = .next t ∧ ∀ p : PortInputs, p.rst = false → rspValid t p = true) ∧
  (∀ (s t : State) (p : PortInputs), step s = .next t → rspValid t p = true →
    s.slot ≠ .idle ∨ (reqReady s s.inputs = true ∧ s.inputs.reqValid = true))

/-- 30_encoding.md R61: what the output ports carry. -/
def Obligations.OutputPortsFollowTheSlot : Prop :=
  ∀ (s : State) (p : PortInputs),
    (reqReady s p = true ↔ s.slot = .idle ∧ p.rst = false) ∧
    (rspValid s p = true ↔ s.slot ≠ .idle ∧ p.rst = false) ∧
    ∀ st r, s.slot = .pending st r → p.rst = false → rspStatus s p = st.code ∧ rspR s p = r

/-- 70_reset_and_hazards.md R278, 30_encoding.md R64, 60_exceptions.md R246: no instruction and no step faults or is
refused, in any state, so no run stops. -/
def Obligations.NothingEverStops : Prop :=
  (∀ (i : Instr) (s : State), ∃ t, exec i s = .next t) ∧ (∀ s : State, ∃ t, step s = .next t) ∧
    ∀ s : State, NeverStops s

/-- 30_encoding.md R64: every instruction, from every state with an idle slot, completes with the response `EXEC` gives
its request, and leaves everything but the slot unchanged; while a response is pending nothing is accepted
(10_state.md R28; that `exec` then changes nothing is log 24). -/
def Obligations.EveryInstructionAnswersWithExec : Prop :=
  ∀ (i : Instr) (s : State),
    (s.slot = .idle → Answers i s (execRequest Config.unit (encode i))) ∧ (s.slot ≠ .idle → exec i s = .next s)

/-- 10_state.md R28, R29, 70_reset_and_hazards.md R280: every step keeps responses in request order, each one `EXEC` of
its request, with at most the last one still owed. The two records are the model's own (log 4). -/
def Obligations.StepKeepsResponsesConsistent : Prop :=
  ∀ s t : State, Consistent s → step s = .next t → Consistent t

/-- 10_state.md R30: after reset the slot is idle and nothing is owed. -/
def Obligations.ResetStateIsIdleAndConsistent : Prop :=
  State.reset.slot = .idle ∧ State.reset.quiescent = true ∧ Consistent State.reset ∧
    ∀ p : PortInputs, rspValid State.reset p = false

/-- 70_reset_and_hazards.md R280: whatever happens in a run, finite or infinite, each delivered pair is a request with
its `EXEC`, and what was delivered before stays delivered, in order. Every way a host may behave for ever is an infinite
run from every idle state, and with a host that always offers a request and always takes the response the run is
`Accept`, `Deliver`, `Accept`, `Deliver` without end. The two records are the model's own (log 4), and that the response
is taken at the moment after its `Accept` is the model's choice, since the spec gives no `LATENCY` (log 2). -/
def Obligations.EveryRunDeliversExecOfItsRequests : Prop :=
  (∀ (k : Nat) (s t : State), Consistent s → Sys2Proof.core.run k s = .next t →
    (∀ q x, (q, x) ∈ t.observation → x = execRequest Config.unit q) ∧ s.responses <+: t.responses ∧
      t.responses.length ≤ t.requests.length ∧ t.requests.length ≤ t.responses.length + 1 ∧
        (t.quiescent = true ↔ t.requests.length = t.responses.length)) ∧
  (∀ (ins : Nat → PortInputs) (ss : Nat → State), InfiniteRun ins ss → Consistent (ss 0) → ∀ m n : Nat, m ≤ n →
    (∀ q x, (q, x) ∈ (ss n).observation → x = execRequest Config.unit q) ∧
      (ss m).responses <+: (ss n).responses ∧ (ss n).responses.length ≤ (ss n).requests.length ∧
        (ss n).requests.length ≤ (ss n).responses.length + 1 ∧
        ((ss n).quiescent = true ↔ (ss n).requests.length = (ss n).responses.length)) ∧
  (∀ (ins : Nat → PortInputs) (s : State), s.slot = .idle → ∃ ss, ss 0 = s ∧ InfiniteRun ins ss) ∧
  ∀ (reqs : Nat → Request) (ss : Nat → State),
    InfiniteRun (fun n => { rst := false, reqValid := true, req := reqs n, rspReady := true }) ss →
      ∀ n : Nat, (ss (2 * n)).slot = .idle ∧ (ss (2 * n + 1)).slot ≠ .idle ∧
        (ss (2 * n + 2)).responses =
          (ss (2 * n)).responses ++ [execRequest Config.unit (reqs (2 * n))]

/-- 10_state.md R29, R21: the response to a request does not depend on the slot's past, on earlier requests or
responses, on a counter, or on any input other than the request: two idle units that are presented the same request
hold the same response afterwards. -/
def Obligations.ResponseIndependentOfHistory : Prop :=
  ∀ s s' : State, s.slot = .idle → s'.slot = .idle → s.inputs.rst = false → s'.inputs.rst = false →
    s.inputs.reqValid = true → s'.inputs.reqValid = true → s.inputs.req = s'.inputs.req →
      ∃ t t', step s = .next t ∧ step s' = .next t' ∧ t.slot = t'.slot ∧ t.slot ≠ .idle

/-- 60_exceptions.md R245, 30_encoding.md R63: an error carries `ERRVAL`; an OK result is a raw of the result type,
zero-extended. For every configuration whose table and functions are as 20_memory.md R44 and 43_transcendental.md R222
to R225 say. -/
def Obligations.ErrorCarriesErrvalAndOkARawOfTheType : Prop :=
  ∀ (cfg : Cfg) (q : Request),
    ((execRequest cfg q).status ≠ .ok → (execRequest cfg q).r = cfg.errval) ∧
    ∀ i, decodeRequest q = .ok i → (execRequest cfg q).status = .ok →
      ∃ v, (i.op.resultTy i.ty).min ≤ v ∧ v ≤ (i.op.resultTy i.ty).max ∧
        (execRequest cfg q).r = resultPattern (i.op.resultTy i.ty) v

/-- 60_exceptions.md R242: no operation answers a status outside its row of the table, whatever the configuration. -/
def Obligations.StatusesStayInTheirRow : Prop :=
  ∀ (cfg : Cfg) (q : Request) (i : Instr), decodeRequest q = .ok i →
    mayAnswer i.op i.ty (execRequest cfg q).status = true

/-- 60_exceptions.md R244, steps 1 to 3: the command word is judged before any operand, and the operand tests before
any arithmetic, whatever the table and the rounding rule. -/
def Obligations.OperandTestsComeFirst : Prop :=
  (∀ (cfg : Cfg) (q : Request) (e : Illegal), decodeRequest q = .error e → (execRequest cfg q).status = .illegal) ∧
  (∀ (m : RMode) (t : Ty) (x y : Int), divResult m t x 0 = .error .divByZero ∧ modResult x 0 = .error .divByZero ∧
    fmdResult m t x y 0 = .error .divByZero) ∧
  (∀ (tab : Tab) (m : RMode) (t : Ty), lnResult tab m t 0 = .error .domainError) ∧
  (∀ (fns : OpaqueFns) (t : Ty) (x : Int), t.scale < (x.natAbs : Int) →
    asinResult fns t x = .error .rangeError ∧ acosResult fns t x = .error .rangeError) ∧
  ∀ (tab : Tab) (m : RMode) (t : Ty) (x : Int), (x < tab.minLnRaw t → expResult tab m t x = .error .underflow) ∧
    (tab.minLnRaw t ≤ x → tab.maxLnRaw t < x → expResult tab m t x = .error .overflow)

/-! ## The exact operations -/

/-- 41_fixed_arith.md R143: ADD answers the exact sum, Overflow above `MAX(T)`, NegOverflow below `MIN(T)`. -/
def Obligations.AddAnswersTheExactSum : Prop :=
  ∀ (a b c : Port) (s : State), s.slot = .idle →
    commandsOf [.addUF64 a b c, .addF64 a b c, .addUF128 a b c, .addF128 a b c] = [0x0000, 0x0020, 0x0040, 0x0060] ∧
    AnswersInEachType (.addUF64 a b c) (.addF64 a b c) (.addUF128 a b c) (.addF128 a b c) s fun t x =>
      x = if t.max < operand t a + operand t b then errorResponse .overflow
          else if operand t a + operand t b < t.min then errorResponse .negOverflow
          else okResponse t (operand t a + operand t b)

/-- 41_fixed_arith.md R144: SUB answers the exact difference; an unsigned difference below zero is NegOverflow. -/
def Obligations.SubAnswersTheExactDifference : Prop :=
  ∀ (a b c : Port) (s : State), s.slot = .idle →
    commandsOf [.subUF64 a b c, .subF64 a b c, .subUF128 a b c, .subF128 a b c] = [0x0001, 0x0021, 0x0041, 0x0061] ∧
    AnswersInEachType (.subUF64 a b c) (.subF64 a b c) (.subUF128 a b c) (.subF128 a b c) s fun t x =>
      x = if t.max < operand t a - operand t b then errorResponse .overflow
          else if operand t a - operand t b < t.min then errorResponse .negOverflow
          else okResponse t (operand t a - operand t b)

/-- 41_fixed_arith.md R145: MUL answers the exact product over the scale, correctly rounded. -/
def Obligations.MulAnswersTheRoundedProduct : Prop :=
  ∀ (a b c : Port) (s : State), s.slot = .idle →
    commandsOf [.mulUF64 a b c, .mulF64 a b c, .mulUF128 a b c, .mulF128 a b c] = [0x0002, 0x0022, 0x0042, 0x0062] ∧
    AnswersInEachType (.mulUF64 a b c) (.mulF64 a b c) (.mulUF128 a b c) (.mulF128 a b c) s fun t x =>
      Concluded t (operand t a * operand t b) t.scale false x

/-- 41_fixed_arith.md R146: DIV answers DivByZero for a zero divisor, otherwise the rescaled dividend over the divisor,
correctly rounded. -/
def Obligations.DivAnswersTheRoundedQuotient : Prop :=
  ∀ (a b c : Port) (s : State), s.slot = .idle →
    commandsOf [.divUF64 a b c, .divF64 a b c, .divUF128 a b c, .divF128 a b c] = [0x0003, 0x0023, 0x0043, 0x0063] ∧
    AnswersInEachType (.divUF64 a b c) (.divF64 a b c) (.divUF128 a b c) (.divF128 a b c) s fun t x =>
      if operand t b = 0 then x = errorResponse .divByZero
      else Finished t (operand t a * t.scale) (operand t b) x

/-- 41_fixed_arith.md R147: MOD answers DivByZero for a zero divisor, otherwise the remainder of truncating division,
smaller than the divisor and with the sign of the dividend. -/
def Obligations.ModAnswersTheTruncatedRemainder : Prop :=
  ∀ (a b c : Port) (s : State), s.slot = .idle →
    commandsOf [.modUF64 a b c, .modF64 a b c, .modUF128 a b c, .modF128 a b c] = [0x0004, 0x0024, 0x0044, 0x0064] ∧
    AnswersInEachType (.modUF64 a b c) (.modF64 a b c) (.modUF128 a b c) (.modF128 a b c) s fun t x =>
      if operand t b = 0 then x = errorResponse .divByZero
      else ∃ q r, TowardZero (operand t a) (operand t b) q ∧ r = operand t a - operand t b * q ∧
        r.natAbs < (operand t b).natAbs ∧ (r = 0 ∨ r.sign = (operand t a).sign) ∧ t.min ≤ r ∧ r ≤ t.max ∧
          x = okResponse t r

/-- 41_fixed_arith.md R148: FMD answers DivByZero for a zero `c`, otherwise the exact product over `c`, rounded once. -/
def Obligations.FmdAnswersTheOnceRoundedQuotient : Prop :=
  ∀ (a b c : Port) (s : State), s.slot = .idle →
    commandsOf [.fmdUF64 a b c, .fmdF64 a b c, .fmdUF128 a b c, .fmdF128 a b c] = [0x0005, 0x0025, 0x0045, 0x0065] ∧
    AnswersInEachType (.fmdUF64 a b c) (.fmdF64 a b c) (.fmdUF128 a b c) (.fmdF128 a b c) s fun t x =>
      if operand t c = 0 then x = errorResponse .divByZero
      else Finished t (operand t a * operand t b) (operand t c) x

/-- 43_transcendental.md R210: SQRT answers the integer nearest to the square root of `A · S(T)`, always OK and in
range. `r² − r < n ≤ r² + r` says that `r` is the integer nearest to the root of `n`. -/
def Obligations.SqrtAnswersTheNearestRoot : Prop :=
  ∀ (a b c : Port) (s : State), s.slot = .idle →
    commandsOf [.sqrtUF64 a b c, .sqrtUF128 a b c] = [0x0008, 0x0048] ∧
    ∀ i t, (i, t) ∈ [(Instr.sqrtUF64 a b c, Ty.uf64), (Instr.sqrtUF128 a b c, Ty.uf128)] →
      ∃ r : Int, 0 ≤ r ∧ r ≤ t.max ∧ operand t a * t.scale ≤ r * r + r ∧
        (r = 0 ∨ r * r - r < operand t a * t.scale) ∧ Answers i s (okResponse t r)

/-- 41_fixed_arith.md R141: `RDIV` is the rounded quotient in both modes, the only one; it is symmetric about zero and
returns `n` when `d = 1`. -/
def Obligations.RdivRoundsOnMagnitudes : Prop :=
  (∀ (m : RMode) (n d : Int), d ≠ 0 →
    RoundsTo m n d (rdiv m n d) ∧ (∀ q, RoundsTo m n d q → q = rdiv m n d) ∧ rdiv m (-n) d = -rdiv m n d ∧
      rdiv m n 1 = n) ∧
  rdiv .halfUp (-3) 2 = -2 ∧ rdiv .down (-3) 2 = -1 ∧ Config.rmode = .halfUp

/-- 41_fixed_arith.md R142: `FINISH` judges the range on the exact fraction, before rounding; a rounded value is then
always in range; and a nonzero fraction that rounds to zero is Underflow. -/
def Obligations.FinishJudgesTheTrueResult : Prop :=
  ∀ (m : RMode) (t : Ty) (n d n' d' : Int), d ≠ 0 → n' = (if d < 0 then -n else n) → d' = (d.natAbs : Int) →
    (finish m t n d = .error .overflow ↔ t.max * d' < n') ∧
    (finish m t n d = .error .negOverflow ↔ n' < t.min * d') ∧
    (finish m t n d = .error .underflow ↔ t.min * d' ≤ n' ∧ n' ≤ t.max * d' ∧ n' ≠ 0 ∧ rdiv m n' d' = 0) ∧
    (∀ q, finish m t n d = .value q ↔
      t.min * d' ≤ n' ∧ n' ≤ t.max * d' ∧ (n' = 0 ∨ rdiv m n' d' ≠ 0) ∧ q = rdiv m n' d') ∧
    (t.min * d' ≤ n' → n' ≤ t.max * d' → t.min ≤ rdiv m n' d' ∧ rdiv m n' d' ≤ t.max) ∧
    (t.signed = false → (n' < t.min * d' ↔ n' < 0)) ∧
    (n' ≠ 0 ∧ rdiv m n' d' = 0 ↔
      n' ≠ 0 ∧ match m with
        | .halfUp => 2 * (n'.natAbs : Int) < d'
        | .down => (n'.natAbs : Int) < d')

/-- 41_fixed_arith.md R150 (a) to (f), in both rounding modes, with R148's relations of FMD to MUL and DIV. -/
def Obligations.LawsOfTheExactOperations : Prop :=
  ∀ (m : RMode) (t : Ty) (x y z : Int), t.min ≤ x → x ≤ t.max → t.min ≤ y → y ≤ t.max →
    addResult m t x y = addResult m t y x ∧ mulResult m t x y = mulResult m t y x ∧
    (addResult m t x y = .error .overflow ↔ t.max < x + y) ∧
    subResult m t x x = .value 0 ∧
    divResult m t x 0 = .error .divByZero ∧
    (∀ n d q, d ≠ 0 → finish m t n d = .value q →
      RoundsTo m n d q ∧ (q = 0 ↔ n = 0) ∧ 0 ≤ n * d * q) ∧
    (y ≠ 0 → ∃ q r, modResult x y = .value r ∧ TowardZero x y q ∧ x = y * q + r) ∧
    fmdResult m t x y t.scale = mulResult m t x y ∧ fmdResult m t x t.scale z = divResult m t x z

/-! ## The fix192 datapath -/

/-- 42_fix192_poly.md R171, R172: the storage split holds every fix192 raw, and widening is exact and in range for
every operand that is widened to 192 bits. -/
def Obligations.SplitAndWidenAreExact : Prop :=
  (∀ x, fix192Min ≤ x → x ≤ fix192Max → fix192Join (fix192Hi x) (fix192Lo x) = x) ∧
  (∀ (t : Ty) (v : Int), widen t v * t.scale = v * s192) ∧
  (∀ (t : Ty) (v : Int), t ≠ .uf128 → t.min ≤ v → v ≤ t.max → fix192Min ≤ widen t v ∧ widen t v ≤ fix192Max) ∧
  widen .f128 Ty.f128.min = fix192Min

/-- 42_fix192_poly.md R173 to R175: fix192 addition, subtraction and multiplication are what the 192-bit limb
primitives compute, and the overflow signal is theirs. -/
def Obligations.Fix192ArithmeticIsLimbArithmetic : Prop :=
  ∀ (x y : BitVec 192) (k : Nat), 1 ≤ k → k ≤ 191 →
    (f192Add x.toInt y.toInt = if (addSLimbs x y).2 = 0 then some (addSLimbs x y).1.toInt else none) ∧
    (f192Sub x.toInt y.toInt = if (subSLimbs x y).2 = 0 then some (subSLimbs x y).1.toInt else none) ∧
    (f192MulSh k x.toInt y.toInt =
      if isFix192 (sar (mulS x y) k).toInt then some (sar (mulS x y) k).toInt else none) ∧
    (sar (mulS x y) k).toInt = x.toInt * y.toInt / ((2 ^ k : Nat) : Int)

/-- 42_fix192_poly.md R180, R176: `POLY` is the Horner recurrence on exact integers, and raises the overflow signal
exactly when some intermediate value is no fix192 raw. -/
def Obligations.PolyIsHornerWithinRange : Prop :=
  ∀ (k : Nat) (c : Int) (cs : List Int) (x : Int),
    poly k (c :: cs) x =
      if (hornerTrace k x c cs).all isFix192 then some ((hornerTrace k x c cs).getLastD c) else none

/-- 42_fix192_poly.md R177: `NARROW` judges the computed value on the exact fraction `R / D`, in both modes. -/
def Obligations.NarrowJudgesTheComputedValue : Prop :=
  Ty.uf64.unit192 = 184467440737095516160000000000000000 ∧ Ty.f64.unit192 = 184467440737095516160000000000000000 ∧
  Ty.uf128.unit192 = 18446744073709551616 ∧ Ty.f128.unit192 = 18446744073709551616 ∧
  ∀ (m : RMode) (t : Ty) (r : Int) (z : Bool),
    (narrow m t r z = .error .overflow ↔ t.max * t.unit192 < r) ∧
    (narrow m t r z = .error .negOverflow ↔ r < t.min * t.unit192) ∧
    (narrow m t r z = .error .underflow ↔
      t.min * t.unit192 ≤ r ∧ r ≤ t.max * t.unit192 ∧ r ≠ 0 ∧ RoundsTo m r t.unit192 0 ∧ z = false) ∧
    (∀ q, narrow m t r z = .value q ↔
      t.min * t.unit192 ≤ r ∧ r ≤ t.max * t.unit192 ∧ RoundsTo m r t.unit192 q ∧ (q = 0 → r = 0 ∨ z = true)) ∧
    (∀ q, narrow m t r z = .value q → t.min ≤ q ∧ q ≤ t.max)

/-- 42_fix192_poly.md R190, 20_memory.md R41: the exponent is split into floor and fraction, the fraction is in [0, 1)
and the table has an entry for the floor. -/
def Obligations.ExpSplitIsFloorAndFraction : Prop :=
  (∀ (tab : Tab) (t : Ty) (a : Int), tab.wf = true → t.signed = true → tab.minLnRaw t ≤ a → a ≤ tab.maxLnRaw t →
    ∃ f, a = expWhole t a * t.scale + f ∧ 0 ≤ f ∧ f < t.scale ∧ expFraction t a = widen t f ∧
      0 ≤ expFraction t a ∧ expFraction t a < s192 ∧ tab.kMin ≤ expWhole t a ∧ expWhole t a ≤ tab.kMax ∧
        (expWhole t a - tab.kMin).toNat < tab.expTab.length) ∧
  expWhole .f64 (-1) = -1 ∧ expWhole .f64 (-150000000) = -2 ∧ expFraction .f64 (-150000000) = s192 / 2

/-- 42_fix192_poly.md R191: `LNNORM` finds the one exponent that brings the operand into [1, 2), within the ranges
given for the widths. -/
def Obligations.LnNormFindsTheMantissa : Prop :=
  (∀ (t : Ty) (a : Int), t.signed = false → 0 < a → a ≤ t.max →
    NormalisedBy (widen t a) (lnNorm t a).1 (lnNorm t a).2 ∧
    (∀ e m, NormalisedBy (widen t a) e m → (lnNorm t a) = (e, m)) ∧
    s192 ≤ (lnNorm t a).2 ∧ (lnNorm t a).2 < 2 * s192 ∧
    -80 ≤ (lnNorm t a).1 ∧ (lnNorm t a).1 ≤ 48 ∧
    (t = .uf64 → -27 ≤ (lnNorm t a).1 ∧ (lnNorm t a).1 ≤ 37)) ∧
  lnNorm .uf64 300000000 = (1, 3 * s192 / 2) ∧ (lnNorm .uf128 1).1 = -80 ∧ (lnNorm .uf128 Ty.uf128.max).1 = 48 ∧
  (lnNorm .uf64 1).1 = -27 ∧ (lnNorm .uf64 Ty.uf64.max).1 = 37

/-- 42_fix192_poly.md R192, 20_memory.md R41: `LNSELECT` returns the one sub-range that holds the mantissa, and the
table has its polynomial. -/
def Obligations.LnSelectFindsTheSubrange : Prop :=
  ∀ (tab : Tab) (m : Int), tab.wf = true → s192 ≤ m → m < 2 * s192 →
    lnSelect tab m < 16 ∧ tab.lnBounds.getD (lnSelect tab m) 0 ≤ m ∧ m < tab.lnBounds.getD (lnSelect tab m + 1) 0 ∧
      (∀ i, i < 16 → tab.lnBounds.getD i 0 ≤ m → m < tab.lnBounds.getD (i + 1) 0 → i = lnSelect tab m) ∧
        lnSelect tab m < tab.lnCoef.length ∧ tab.lnCoef.getD (lnSelect tab m) [] ≠ []

/-- 42_fix192_poly.md R196: `REDUCE` subtracts the nearest whole number of turns in every rounding mode. Under
20_memory.md R45 (d) the result is within the residual correction of the interval from −π to π, and inside it, up to the
tolerance of R45 (d), where the correction is at most half a turn. With a 2π of at least 6.0 that holds for every
operand: the number of turns is below 2^45 and the result is a fix192 raw. Where 2π was rounded down against π, the
interval is half-open as R195 asks. -/
def Obligations.ReduceSubtractsWholeTurns : Prop :=
  ∀ (tab : Tab) (x : Int), AnglesRelated tab →
    Reduced tab x (reduceWide tab x) ∧
    (tab.twoPiRes = 0 → ∃ k, x - reduceWide tab x = k * tab.twoPi) ∧
    (∀ q c : Int, NearestAway x tab.twoPi q → c = q * (tab.twoPiRes : Int) / 18446744073709551616 →
      -tab.pi - c.natAbs ≤ reduceWide tab x ∧ reduceWide tab x ≤ tab.pi + 1 + c.natAbs ∧
      ((c.natAbs : Int) ≤ tab.pi → -tab.pi ≤ reduceWide tab x ∧ reduceWide tab x ≤ tab.pi + 1 ∧
        (tab.twoPi ≤ 2 * tab.pi → -tab.pi < reduceWide tab x ∧ reduceWide tab x ≤ tab.pi))) ∧
    ∀ (t : Ty) (a : Int), t.signed = true → t.min ≤ a → a ≤ t.max → 6 * s192 ≤ tab.twoPi →
      isFix192 tab.twoPi = true → tab.twoPiRes < 18446744073709551616 →
        (∀ q, NearestAway (widen t a) tab.twoPi q → (q.natAbs : Int) < 35184372088832) ∧
        -tab.pi ≤ reduce tab t a ∧ reduce tab t a ≤ tab.pi + 1 ∧ isFix192 (reduce tab t a) = true ∧
          (tab.twoPi ≤ 2 * tab.pi → -tab.pi < reduce tab t a ∧ reduce tab t a ≤ tab.pi)

/-! ## The table-dependent operations -/

/-- 43_transcendental.md R211, 42_fix192_poly.md R191, R192: LN answers DomainError for 0; otherwise the polynomial of
the sub-range at the offset of the mantissa, plus the exponent times `LN2`, narrowed, a zero being no underflow. -/
def Obligations.LnAnswers : Prop :=
  ∀ (a b c : Port) (s : State), s.slot = .idle →
    commandsOf [.lnUF64 a b c, .lnUF128 a b c] = [0x0009, 0x0049] ∧
    ∀ i t out, (i, t, out) ∈ [(Instr.lnUF64 a b c, Ty.uf64, Ty.f64), (Instr.lnUF128 a b c, Ty.uf128, Ty.f128)] →
      if operand t a = 0 then Answers i s (errorResponse .domainError)
      else ∃ e m j, NormalisedBy (widen t (operand t a)) e m ∧ j < 16 ∧ Config.tab.lnBounds.getD j 0 ≤ m ∧
        m < Config.tab.lnBounds.getD (j + 1) 0 ∧
        AnswersSome i s (OrOverflow
          (poly Config.tab.k (Config.tab.lnCoef.getD j []) (m - Config.tab.lnBounds.getD j 0)) fun p =>
            OrOverflow (f192Add p (e * Config.tab.ln2)) fun r => Concluded out r out.unit192 true)

/-- 43_transcendental.md R212, 42_fix192_poly.md R190: EXP answers Underflow and Overflow beyond its thresholds;
otherwise the polynomial of the fraction times the table's power, narrowed. -/
def Obligations.ExpAnswers : Prop :=
  ∀ (a b c : Port) (s : State), s.slot = .idle →
    commandsOf [.expF64 a b c, .expF128 a b c] = [0x002A, 0x006A] ∧
    ∀ i t out, (i, t, out) ∈ [(Instr.expF64 a b c, Ty.f64, Ty.uf64), (Instr.expF128 a b c, Ty.f128, Ty.uf128)] →
      if operand t a < Config.tab.minLnRaw t then Answers i s (errorResponse .underflow)
      else if Config.tab.maxLnRaw t < operand t a then Answers i s (errorResponse .overflow)
      else ∃ k f, operand t a = k * t.scale + f ∧ 0 ≤ f ∧ f < t.scale ∧ Config.tab.kMin ≤ k ∧ k ≤ Config.tab.kMax ∧
        AnswersSome i s (OrOverflow (poly Config.tab.k Config.tab.expCoef (widen t f)) fun p =>
          Concluded out
            (p * ((Config.tab.expTab.getD (k - Config.tab.kMin).toNat 0 : Nat) : Int) /
              ((2 ^ Config.tab.k : Nat) : Int))
            out.unit192 false)

/-- 43_transcendental.md R213, R214, 42_fix192_poly.md R196 to R198: SIN answers the polynomial at the reduced and
folded angle, COS at the reduced angle a quarter turn further and folded, each narrowed; a result that rounds to zero is
OK 0. -/
def Obligations.SinAndCosAnswer : Prop :=
  ∀ (a b c : Port) (s : State), s.slot = .idle →
    commandsOf [.sinF64 a b c, .sinF128 a b c, .cosF64 a b c, .cosF128 a b c] = [0x002B, 0x006B, 0x002C, 0x006C] ∧
    ∀ i j t, (i, j, t) ∈ [(Instr.sinF64 a b c, Instr.cosF64 a b c, Ty.f64),
                          (Instr.sinF128 a b c, Instr.cosF128 a b c, Ty.f128)] →
      ∃ y z y2 z2, Reduced Config.tab (widen t (operand t a)) y ∧ Folded Config.tab y z ∧
        QuarterTurned Config.tab y y2 ∧ Folded Config.tab y2 z2 ∧
        AnswersSome i s (OrOverflow (poly Config.tab.k Config.tab.sinCoef z) fun r =>
          Concluded t r t.unit192 true) ∧
        AnswersSome j s (OrOverflow (poly Config.tab.k Config.tab.sinCoef z2) fun r =>
          Concluded t r t.unit192 true)

/-- 43_transcendental.md R215: TAN answers the ratio of the two core values, the polynomial at the two folded angles of
SIN and COS, truncated at fix192 scale, with the zero cosine and the cutoff judged first. -/
def Obligations.TanAnswersTheRatio : Prop :=
  ∀ (a b c : Port) (s : State), s.slot = .idle →
    commandsOf [.tanF64 a b c, .tanF128 a b c] = [0x002D, 0x006D] ∧
    ∀ i t, (i, t) ∈ [(Instr.tanF64 a b c, Ty.f64), (Instr.tanF128 a b c, Ty.f128)] →
      ∃ y z y2 z2, Reduced Config.tab (widen t (operand t a)) y ∧ Folded Config.tab y z ∧
        QuarterTurned Config.tab y y2 ∧ Folded Config.tab y2 z2 ∧
        AnswersSome i s (OrOverflow (poly Config.tab.k Config.tab.sinCoef z) fun sn =>
          OrOverflow (poly Config.tab.k Config.tab.sinCoef z2) fun cs x =>
          if cs = 0 then x = errorResponse (if 0 ≤ sn then .overflow else .negOverflow)
          else ∃ q, TowardZero (sn * s192) cs q ∧
            if Config.tab.tanMax t * t.unit192 < q then x = errorResponse .overflow
            else if q < -Config.tab.tanMax t * t.unit192 then x = errorResponse .negOverflow
            else Concluded t q t.unit192 false x ∧ x.status ≠ .overflow ∧ x.status ≠ .negOverflow)

/-- 42_fix192_poly.md R197, R198: for every table the fold is `Y`, `PI − Y` or `−PI − Y`, and the quarter turn is
`Y + HALF_PI`, less `TWO_PI` where that is above `PI`; the core values are the polynomial there. Under 20_memory.md
R45 (d) the fold keeps an angle of at most half a turn, and one unit more, within a quarter turn of zero, and the quarter
turn stays within half a turn, in the half-open interval where `TWO_PI` was rounded down against `PI`. -/
def Obligations.FoldAndShiftStayInRange : Prop :=
  (∀ (tab : Tab) (y : Int), 0 < tab.halfPi →
    (tab.halfPi < y → sinFold tab y = tab.pi - y) ∧ (y < -tab.halfPi → sinFold tab y = -tab.pi - y) ∧
    (-tab.halfPi ≤ y → y ≤ tab.halfPi → sinFold tab y = y)) ∧
  (∀ (tab : Tab) (y : Int),
    (y + tab.halfPi ≤ tab.pi → cosShift tab y = y + tab.halfPi) ∧
    (tab.pi < y + tab.halfPi → cosShift tab y = y + tab.halfPi - tab.twoPi) ∧
    sinCore tab y = poly tab.k tab.sinCoef (sinFold tab y) ∧
    cosCore tab y = poly tab.k tab.sinCoef (sinFold tab (cosShift tab y))) ∧
  ∀ (tab : Tab) (y : Int), AnglesRelated tab →
    (-tab.pi - 1 ≤ y → y ≤ tab.pi + 1 → -tab.halfPi ≤ sinFold tab y ∧ sinFold tab y ≤ tab.halfPi) ∧
    (-tab.pi < y → y ≤ tab.pi → -tab.pi ≤ cosShift tab y ∧ cosShift tab y ≤ tab.pi ∧
      (tab.twoPi ≤ 2 * tab.pi → -tab.pi < cosShift tab y))

/-- 43_transcendental.md R230: P-LN-DOM and P-EXP-THRESH, which that rule says hold for every table, valid or not. That
an error of SIN or COS is Overflow or NegOverflow for every table too follows from R213 and R214, whose narrowing allows
zero, and is their row of 60_exceptions.md R242; R230 names it only for a valid table. -/
def Obligations.TableFreeProperties : Prop :=
  ∀ (tab : Tab) (m : RMode) (t : Ty) (x : Int),
    (lnResult tab m t x = .error .domainError ↔ x = 0) ∧
    (x < tab.minLnRaw t → expResult tab m t x = .error .underflow) ∧
    (tab.minLnRaw t ≤ x → tab.maxLnRaw t < x → expResult tab m t x = .error .overflow) ∧
    ∀ e, (sinResult tab m t x = .error e ∨ cosResult tab m t x = .error e) → e = .overflow ∨ e = .negOverflow

/-! ## The opaque operations -/

/-- 43_transcendental.md R222, R223: ASIN and ACOS answer RangeError for a magnitude above 1.0, otherwise OK with the
configuration function's value, which is within its named range. -/
def Obligations.AsinAndAcosAnswer : Prop :=
  ∀ (a b c : Port) (s : State), s.slot = .idle →
    commandsOf [.asinF64 a b c, .asinF128 a b c, .acosF64 a b c, .acosF128 a b c] = [0x0030, 0x0070, 0x0031, 0x0071] ∧
    ∀ i j t, (i, j, t) ∈ [(Instr.asinF64 a b c, Instr.acosF64 a b c, Ty.f64),
                          (Instr.asinF128 a b c, Instr.acosF128 a b c, Ty.f128)] →
      if t.scale < ((operand t a).natAbs : Int) then
        Answers i s (errorResponse .rangeError) ∧ Answers j s (errorResponse .rangeError)
      else
        (∃ q, q = Config.opaqueFns.asinFn t (operand t a) ∧ -halfPiCeil t ≤ q ∧ q ≤ halfPiCeil t ∧ t.min ≤ q ∧
          q ≤ t.max ∧ Answers i s (okResponse t q)) ∧
        ∃ q, q = Config.opaqueFns.acosFn t (operand t a) ∧ 0 ≤ q ∧ q ≤ piCeil t ∧ q ≤ t.max ∧
          Answers j s (okResponse t q)

/-- 43_transcendental.md R224: ATAN answers OK for every operand, with a value within its named range. -/
def Obligations.AtanAnswersOk : Prop :=
  ∀ (a b c : Port) (s : State), s.slot = .idle →
    commandsOf [.atanF64 a b c, .atanF128 a b c] = [0x0032, 0x0072] ∧
    ∀ i t, (i, t) ∈ [(Instr.atanF64 a b c, Ty.f64), (Instr.atanF128 a b c, Ty.f128)] →
      ∃ q, q = Config.opaqueFns.atanFn t (operand t a) ∧ -halfPiCeil t ≤ q ∧ q ≤ halfPiCeil t ∧ t.min ≤ q ∧
        q ≤ t.max ∧ Answers i s (okResponse t q)

/-- 43_transcendental.md R225: POW answers the pair its function returns: OK with a raw of the type, or the error it
names, which is one of its named set. -/
def Obligations.PowAnswersWithinItsProperties : Prop :=
  ∀ (a b c : Port) (s : State), s.slot = .idle →
    commandsOf [.powUF64 a b c, .powF64 a b c, .powUF128 a b c, .powF128 a b c] = [0x0013, 0x0033, 0x0053, 0x0073] ∧
    AnswersInEachType (.powUF64 a b c) (.powF64 a b c) (.powUF128 a b c) (.powF128 a b c) s fun t x =>
      (∃ q, Config.opaqueFns.powFn t (operand t a) (operand t b) = .value q ∧ t.min ≤ q ∧ q ≤ t.max ∧
        x = okResponse t q) ∨
      ∃ e st, Config.opaqueFns.powFn t (operand t a) (operand t b) = .error e ∧ x = errorResponse st ∧
        (e, st) ∈ [(PowError.overflow, Status.overflow), (.negOverflow, .negOverflow), (.underflow, .underflow),
                   (.divByZero, .divByZero), (.domainError, .domainError)]

/-- 43_transcendental.md R222 to R224: the range bounds of every type are `ceil(π/2 · S)` and `ceil(π · S)` over the real
numbers, which shows the digits that log 9 presumes. -/
def Obligations.RangeBoundsAreCeilingsOfPi : Prop :=
  ∀ t : Ty, halfPiCeil t = ⌈Real.pi / 2 * (t.scale : ℝ)⌉ ∧ piCeil t = ⌈Real.pi * (t.scale : ℝ)⌉

/-! ## The wide-integer core -/

/-- 40_wide_integer.md R102, R103, R107, R108: the one-limb steps, of addition with carry, subtraction with borrow,
multiplication and multiplication with carry, lose nothing. R108 marks the last as general knowledge, not in the
source. -/
def Obligations.OneLimbStepsAreExact : Prop :=
  (∀ (x y : Limb) (cin : Bool),
    (add64c x y cin).1.toNat + 2 ^ 64 * (add64c x y cin).2.toNat = x.toNat + y.toNat + cin.toNat ∧
    ((sub64b x y cin).1.toNat : Int) - 2 ^ 64 * ((sub64b x y cin).2.toNat : Int) =
      (x.toNat : Int) - y.toNat - cin.toNat) ∧
  ∀ x y c acc : Limb,
    (mul64 x y).1.toNat * 2 ^ 64 + (mul64 x y).2.toNat = x.toNat * y.toNat ∧
    (mulc64 x y c acc).1.toNat * 2 ^ 64 + (mulc64 x y c acc).2.toNat = x.toNat * y.toNat + c.toNat + acc.toNat

/-- 40_wide_integer.md R104, R105: the result laws of unsigned addition and subtraction, for any number of limbs. -/
def Obligations.WideAddAndSubtractAreExact : Prop :=
  ∀ (n : Nat) (x y : BitVec (64 * n)) (cin : Bool),
    (addU x y cin).1.toNat + 2 ^ (64 * n) * (addU x y cin).2.toNat = x.toNat + y.toNat + cin.toNat ∧
    ((subU x y cin).1.toNat : Int) - 2 ^ (64 * n) * ((subU x y cin).2.toNat : Int) =
      (x.toNat : Int) - y.toNat - cin.toNat

/-- 40_wide_integer.md R106: the limb-level sum, difference and overflow tests give the integer law of signed addition
and subtraction: the truncated result, and +1 or −1 exactly when the true result is above or below the range. -/
def Obligations.SignedOverflowTestIsTheIntegerLaw : Prop :=
  ∀ (n : Nat) (x y : BitVec (64 * n)), 1 ≤ n →
    addSLimbs x y = addS x y ∧ subSLimbs x y = subS x y ∧
    ∀ (u : BitVec (64 * n) × Int) (t : Int),
      (u, t) ∈ [(addSLimbs x y, x.toInt + y.toInt), (subSLimbs x y, x.toInt - y.toInt)] →
        u.1 = BitVec.ofInt (64 * n) t ∧ (u.2 = 1 ↔ (2 ^ (64 * n - 1) : Int) - 1 < t) ∧
          (u.2 = -1 ↔ t < -(2 ^ (64 * n - 1) : Int)) ∧ (u.2 = 1 ∨ u.2 = -1 ∨ u.2 = 0)

/-- 40_wide_integer.md R109, R111: the full products, unsigned and signed, for any number of limbs. -/
def Obligations.WideProductsAreExact : Prop :=
  ∀ (n : Nat) (x y : BitVec (64 * n)), (mulU x y).toNat = x.toNat * y.toNat ∧ (mulS x y).toInt = x.toInt * y.toInt

/-- 40_wide_integer.md R110: sign, negation with its overflow, and the magnitude, which never overflows. -/
def Obligations.SignHelpers : Prop :=
  ∀ (n : Nat) (x : BitVec (64 * n)), 1 ≤ n →
    signN x = x.toInt.sign ∧ (absN x).toNat = x.toInt.natAbs ∧
    ((negN x).2 = true ↔ x.toInt = -(2 ^ (64 * n - 1) : Int)) ∧
    ((negN x).2 = false → (negN x).1.toInt = -x.toInt) ∧ ((negN x).2 = true → (negN x).1 = x)

/-- 40_wide_integer.md R112 to R114: the shifts, for every amount up to the width. -/
def Obligations.ShiftLaws : Prop :=
  ∀ (w : Nat) (x : BitVec w) (s : Nat), 1 ≤ w → s ≤ w →
    (shl x s).1.toNat + 2 ^ w * (shl x s).2.toNat = x.toNat * 2 ^ s ∧ (shr x s).toNat = x.toNat / 2 ^ s ∧
    (sar x s).toInt = x.toInt / 2 ^ s ∧ (sar x w = if x.toInt < 0 then BitVec.ofInt w (-1) else 0) ∧ shr x w = 0

/-- 40_wide_integer.md R115: comparison by limbs is the order of the values, at every width, whole limbs or not. -/
def Obligations.LimbComparisonIsTheOrder : Prop :=
  ∀ (w : Nat) (x y : BitVec w),
    cmpU x y = compare x.toNat y.toNat ∧ cmpS x y = compare x.toInt y.toInt

/-- 40_wide_integer.md R116: division with remainder. -/
def Obligations.DivisionLaw : Prop :=
  ∀ (n : BitVec 384) (d : BitVec 257), d ≠ 0 →
    n.toNat = (udivrem n d).1.toNat * d.toNat + (udivrem n d).2.toNat ∧ (udivrem n d).2.toNat < d.toNat

/-- 43_transcendental.md R210, 70_reset_and_hazards.md R278: the bitwise square root is the integer square root for
numbers of at most 208 bits. -/
def Obligations.IsqrtIsTheIntegerSquareRoot : Prop :=
  ∀ n : Nat, n < 2 ^ 208 → isqrt n * isqrt n ≤ n ∧ n < (isqrt n + 1) * (isqrt n + 1)

/-! ## The written form -/

/-- 30_encoding.md R74, R75: a written operand drives the pattern of its raw, which must be in range, and a name the
pattern it is bound to; ports `a`, `b`, `c` carry the first, second and third written operand, unused ports are driven
with 0, and a line is a request exactly when it has as many operands as its operation uses and each has a pattern. That
lines are syntax trees is the model's choice (log 25). -/
def Obligations.WrittenRequestsDriveTheirOperands : Prop :=
  (∀ (names : List (String × Port)) (t : Ty) (n : Int),
    (∀ p, Literal.pattern names t (.raw n) = some p → p = (BitVec.ofInt t.width n).setWidth 128 ∧ operand t p = n) ∧
    (Literal.pattern names t (.raw n) = none ↔ n < t.min ∨ t.max < n) ∧
    Literal.pattern names t .max = some (resultPattern t t.max) ∧
    Literal.pattern names t .min = some (resultPattern t t.min) ∧
    (∀ x, Literal.pattern names t (.bound x) = names.lookup x) ∧
    ∀ k : Nat, (∀ p, Literal.pattern names t (.numeral n k) = some p → operand t p * 10 ^ k = n * t.scale) ∧
      (Literal.pattern names t (.numeral n k) = none ↔
        ∀ v : Int, v * 10 ^ k = n * t.scale → v < t.min ∨ t.max < v)) ∧
  (∀ (names : List (String × Port)) (l : Line) (q : Request), l.request names = some q →
    q.cmd = commandWord l.op l.ty ∧ l.args.length = l.op.arity ∧
    (∀ x, l.args[0]? = some x → Literal.pattern names l.ty x = some q.a) ∧
    (∀ x, l.args[1]? = some x → Literal.pattern names l.ty x = some q.b) ∧
    (∀ x, l.args[2]? = some x → Literal.pattern names l.ty x = some q.c) ∧
    (l.op.arity ≤ 2 → q.c = 0) ∧ (l.op.arity ≤ 1 → q.b = 0)) ∧
  (∀ (names : List (String × Port)) (l : Line), l.request names = none ↔
    l.args.length ≠ l.op.arity ∨ ∃ x ∈ l.args, Literal.pattern names l.ty x = none) ∧
  ∀ (names : List (String × Port)) (l : Line) (x : Response) (n : String), l.bind = some n →
    (l.bindResult names x).lookup n = some x.r ∧ ∀ m, m ≠ n → (l.bindResult names x).lookup m = names.lookup m
end

