-- ==== Sys2Proof/Laws/Datapath.lean ====
section
/-! SUPPORT. For each shared operation of the datapath, one lemma that says what it can do. -/
namespace Sys2Proof.Machine

/-- A table that passed the check is well formed (20_memory.md R45). -/
theorem config_tab_wf : Config.tab.wf = true := Config.checkedTable.ok

@[simp] theorem config_unit_rmode : Config.unit.rmode = .halfUp := rfl
@[simp] theorem config_unit_tab : Config.unit.tab = Config.tab := rfl
@[simp] theorem config_unit_errval : Config.unit.errval = Config.errval := rfl
@[simp] theorem config_unit_fns : Config.unit.fns = Config.opaqueFns := rfl

theorem Ty.scale_pos (t : Ty) : 0 < t.scale := by cases t <;> decide
theorem Ty.unit192_pos (t : Ty) : 0 < t.unit192 := by cases t <;> decide
theorem Ty.min_le_max (t : Ty) : t.min ≤ t.max := by cases t <;> decide

/-- Widening 1.0 gives `S192` in every type (42_fix192_poly.md R172). -/
theorem widen_one (t : Ty) : widen t t.scale = s192 := by cases t <;> decide

/-- All `conclude` can do, in the order of its tests (60_exceptions.md R244). -/
theorem conclude_cases (m : RMode) (t : Ty) (n d : Int) (z : Bool) :
    (t.max * d < n ∧ conclude m t n d z = .error .overflow) ∨
    (¬ t.max * d < n ∧ n < t.min * d ∧ conclude m t n d z = .error .negOverflow) ∨
    (¬ t.max * d < n ∧ ¬ n < t.min * d ∧ (n ≠ 0 ∧ rdiv m n d = 0 ∧ z = false) ∧
      conclude m t n d z = .error .underflow) ∨
    (¬ t.max * d < n ∧ ¬ n < t.min * d ∧ ¬ (n ≠ 0 ∧ rdiv m n d = 0 ∧ z = false) ∧
      conclude m t n d z = .value (rdiv m n d)) := by
  unfold conclude
  split
  · simp_all
  · split
    · simp_all
    · split <;> simp_all

/-- `finish` is `conclude` on the fraction with a positive denominator. -/
theorem finish_of_pos (m : RMode) (t : Ty) (n : Int) {d : Int} (h : 0 < d) :
    finish m t n d = conclude m t n d false := by simp [finish, Int.not_lt.mpr (Int.le_of_lt h)]

theorem finish_of_neg (m : RMode) (t : Ty) (n : Int) {d : Int} (h : d < 0) :
    finish m t n d = conclude m t (-n) (-d) false := by simp [finish, h]

/-- `fit192` keeps exactly the fix192 raws. -/
theorem fit192_eq_some {z y : Int} : fit192 z = some y ↔ (fix192Min ≤ z ∧ z ≤ fix192Max) ∧ z = y := by
  simp [fit192, isFix192]

theorem fit192_eq_none {z : Int} : fit192 z = none ↔ ¬ (fix192Min ≤ z ∧ z ≤ fix192Max) := by
  simp [fit192, isFix192]

@[simp] theorem orSignal_none (k : Int → Result) : orSignal none k = .error .overflow := rfl
@[simp] theorem orSignal_some (r : Int) (k : Int → Result) : orSignal (some r) k = k r := rfl

@[simp] theorem respond_value (cfg : Cfg) (t : Ty) (q : Int) :
    respond cfg t (.value q) = { status := .ok, r := resultPattern t q } := rfl
@[simp] theorem respond_error (cfg : Cfg) (t : Ty) (e : ErrorKind) :
    respond cfg t (.error e) = { status := e.status, r := cfg.errval } := rfl

/-- A request with an undefined command word is answered ILLEGAL (30_encoding.md R71). -/
theorem execRequest_error {cfg : Cfg} {q : Request} {e : Illegal} (h : decodeRequest q = .error e) :
    execRequest cfg q = { status := .illegal, r := cfg.errval } := by simp [execRequest, h, illegalResponse, raise]

/-- A wide integer has as many limbs as its width needs (40_wide_integer.md R100). -/
@[simp] theorem limbs_length {w : Nat} (x : BitVec w) : (limbs x).length = limbCount w := by simp [limbs]

/-- A whole number of limbs is no more than that many. -/
@[simp] theorem limbCount_whole (n : Nat) : limbCount (64 * n) = n := by unfold limbCount; omega

end Sys2Proof.Machine
end

