-- ==== Sys2Proof/Laws/PerInstr.lean ====
section
/-! SUPPORT. One lemma per constructor of `Instr`: its request decodes to it, and its command word is a defined one
(30_encoding.md R60, R70). -/
namespace Sys2Proof

/-- The fields of a command word are the operation and the type it was made of (30_encoding.md R65, R70). -/
theorem decodeCommand_commandWord (op : Op) (t : Ty) : decodeCommand (commandWord op t) = .ok (op, t) := by
  cases op <;> cases t <;> rfl

/-- A request decodes by its command word alone. -/
theorem decodeRequest_commandWord (op : Op) (t : Ty) (a b c : Port) :
    decodeRequest { cmd := commandWord op t, a := a, b := b, c := c } = assemble op t a b c := by
  simp [decodeRequest, decodeCommand_commandWord]

/-- The command word of an admitted pair is one of the 46 (30_encoding.md R68, R70). -/
theorem commandWord_defined (op : Op) (t : Ty) (a b c : Port) (h : op.admits t = true) :
    Request.wellFormed { cmd := commandWord op t, a := a, b := b, c := c } = true := by
  change definedCommands.contains (commandWord op t) = true
  clear a b c
  revert h
  cases op <;> cases t <;> decide

namespace Laws.EncodingAgrees

/-- The request of an instruction is well formed and decodes to the instruction. -/
def Statement (i : Instr) : Prop := (encode i).wellFormed = true ∧ decodeRequest (encode i) = .ok i

theorem addUF64 (a b c : Port) : Statement (.addUF64 a b c) :=
  ⟨commandWord_defined .add .uf64 a b c rfl, decodeRequest_commandWord .add .uf64 a b c⟩
theorem addF64 (a b c : Port) : Statement (.addF64 a b c) :=
  ⟨commandWord_defined .add .f64 a b c rfl, decodeRequest_commandWord .add .f64 a b c⟩
theorem addUF128 (a b c : Port) : Statement (.addUF128 a b c) :=
  ⟨commandWord_defined .add .uf128 a b c rfl, decodeRequest_commandWord .add .uf128 a b c⟩
theorem addF128 (a b c : Port) : Statement (.addF128 a b c) :=
  ⟨commandWord_defined .add .f128 a b c rfl, decodeRequest_commandWord .add .f128 a b c⟩
theorem subUF64 (a b c : Port) : Statement (.subUF64 a b c) :=
  ⟨commandWord_defined .sub .uf64 a b c rfl, decodeRequest_commandWord .sub .uf64 a b c⟩
theorem subF64 (a b c : Port) : Statement (.subF64 a b c) :=
  ⟨commandWord_defined .sub .f64 a b c rfl, decodeRequest_commandWord .sub .f64 a b c⟩
theorem subUF128 (a b c : Port) : Statement (.subUF128 a b c) :=
  ⟨commandWord_defined .sub .uf128 a b c rfl, decodeRequest_commandWord .sub .uf128 a b c⟩
theorem subF128 (a b c : Port) : Statement (.subF128 a b c) :=
  ⟨commandWord_defined .sub .f128 a b c rfl, decodeRequest_commandWord .sub .f128 a b c⟩
theorem mulUF64 (a b c : Port) : Statement (.mulUF64 a b c) :=
  ⟨commandWord_defined .mul .uf64 a b c rfl, decodeRequest_commandWord .mul .uf64 a b c⟩
theorem mulF64 (a b c : Port) : Statement (.mulF64 a b c) :=
  ⟨commandWord_defined .mul .f64 a b c rfl, decodeRequest_commandWord .mul .f64 a b c⟩
theorem mulUF128 (a b c : Port) : Statement (.mulUF128 a b c) :=
  ⟨commandWord_defined .mul .uf128 a b c rfl, decodeRequest_commandWord .mul .uf128 a b c⟩
theorem mulF128 (a b c : Port) : Statement (.mulF128 a b c) :=
  ⟨commandWord_defined .mul .f128 a b c rfl, decodeRequest_commandWord .mul .f128 a b c⟩
theorem divUF64 (a b c : Port) : Statement (.divUF64 a b c) :=
  ⟨commandWord_defined .div .uf64 a b c rfl, decodeRequest_commandWord .div .uf64 a b c⟩
theorem divF64 (a b c : Port) : Statement (.divF64 a b c) :=
  ⟨commandWord_defined .div .f64 a b c rfl, decodeRequest_commandWord .div .f64 a b c⟩
theorem divUF128 (a b c : Port) : Statement (.divUF128 a b c) :=
  ⟨commandWord_defined .div .uf128 a b c rfl, decodeRequest_commandWord .div .uf128 a b c⟩
theorem divF128 (a b c : Port) : Statement (.divF128 a b c) :=
  ⟨commandWord_defined .div .f128 a b c rfl, decodeRequest_commandWord .div .f128 a b c⟩
theorem modUF64 (a b c : Port) : Statement (.modUF64 a b c) :=
  ⟨commandWord_defined .mod .uf64 a b c rfl, decodeRequest_commandWord .mod .uf64 a b c⟩
theorem modF64 (a b c : Port) : Statement (.modF64 a b c) :=
  ⟨commandWord_defined .mod .f64 a b c rfl, decodeRequest_commandWord .mod .f64 a b c⟩
theorem modUF128 (a b c : Port) : Statement (.modUF128 a b c) :=
  ⟨commandWord_defined .mod .uf128 a b c rfl, decodeRequest_commandWord .mod .uf128 a b c⟩
theorem modF128 (a b c : Port) : Statement (.modF128 a b c) :=
  ⟨commandWord_defined .mod .f128 a b c rfl, decodeRequest_commandWord .mod .f128 a b c⟩
theorem fmdUF64 (a b c : Port) : Statement (.fmdUF64 a b c) :=
  ⟨commandWord_defined .fmd .uf64 a b c rfl, decodeRequest_commandWord .fmd .uf64 a b c⟩
theorem fmdF64 (a b c : Port) : Statement (.fmdF64 a b c) :=
  ⟨commandWord_defined .fmd .f64 a b c rfl, decodeRequest_commandWord .fmd .f64 a b c⟩
theorem fmdUF128 (a b c : Port) : Statement (.fmdUF128 a b c) :=
  ⟨commandWord_defined .fmd .uf128 a b c rfl, decodeRequest_commandWord .fmd .uf128 a b c⟩
theorem fmdF128 (a b c : Port) : Statement (.fmdF128 a b c) :=
  ⟨commandWord_defined .fmd .f128 a b c rfl, decodeRequest_commandWord .fmd .f128 a b c⟩
theorem sqrtUF64 (a b c : Port) : Statement (.sqrtUF64 a b c) :=
  ⟨commandWord_defined .sqrt .uf64 a b c rfl, decodeRequest_commandWord .sqrt .uf64 a b c⟩
theorem sqrtUF128 (a b c : Port) : Statement (.sqrtUF128 a b c) :=
  ⟨commandWord_defined .sqrt .uf128 a b c rfl, decodeRequest_commandWord .sqrt .uf128 a b c⟩
theorem lnUF64 (a b c : Port) : Statement (.lnUF64 a b c) :=
  ⟨commandWord_defined .ln .uf64 a b c rfl, decodeRequest_commandWord .ln .uf64 a b c⟩
theorem lnUF128 (a b c : Port) : Statement (.lnUF128 a b c) :=
  ⟨commandWord_defined .ln .uf128 a b c rfl, decodeRequest_commandWord .ln .uf128 a b c⟩
theorem expF64 (a b c : Port) : Statement (.expF64 a b c) :=
  ⟨commandWord_defined .exp .f64 a b c rfl, decodeRequest_commandWord .exp .f64 a b c⟩
theorem expF128 (a b c : Port) : Statement (.expF128 a b c) :=
  ⟨commandWord_defined .exp .f128 a b c rfl, decodeRequest_commandWord .exp .f128 a b c⟩
theorem sinF64 (a b c : Port) : Statement (.sinF64 a b c) :=
  ⟨commandWord_defined .sin .f64 a b c rfl, decodeRequest_commandWord .sin .f64 a b c⟩
theorem sinF128 (a b c : Port) : Statement (.sinF128 a b c) :=
  ⟨commandWord_defined .sin .f128 a b c rfl, decodeRequest_commandWord .sin .f128 a b c⟩
theorem cosF64 (a b c : Port) : Statement (.cosF64 a b c) :=
  ⟨commandWord_defined .cos .f64 a b c rfl, decodeRequest_commandWord .cos .f64 a b c⟩
theorem cosF128 (a b c : Port) : Statement (.cosF128 a b c) :=
  ⟨commandWord_defined .cos .f128 a b c rfl, decodeRequest_commandWord .cos .f128 a b c⟩
theorem tanF64 (a b c : Port) : Statement (.tanF64 a b c) :=
  ⟨commandWord_defined .tan .f64 a b c rfl, decodeRequest_commandWord .tan .f64 a b c⟩
theorem tanF128 (a b c : Port) : Statement (.tanF128 a b c) :=
  ⟨commandWord_defined .tan .f128 a b c rfl, decodeRequest_commandWord .tan .f128 a b c⟩
theorem asinF64 (a b c : Port) : Statement (.asinF64 a b c) :=
  ⟨commandWord_defined .asin .f64 a b c rfl, decodeRequest_commandWord .asin .f64 a b c⟩
theorem asinF128 (a b c : Port) : Statement (.asinF128 a b c) :=
  ⟨commandWord_defined .asin .f128 a b c rfl, decodeRequest_commandWord .asin .f128 a b c⟩
theorem acosF64 (a b c : Port) : Statement (.acosF64 a b c) :=
  ⟨commandWord_defined .acos .f64 a b c rfl, decodeRequest_commandWord .acos .f64 a b c⟩
theorem acosF128 (a b c : Port) : Statement (.acosF128 a b c) :=
  ⟨commandWord_defined .acos .f128 a b c rfl, decodeRequest_commandWord .acos .f128 a b c⟩
theorem atanF64 (a b c : Port) : Statement (.atanF64 a b c) :=
  ⟨commandWord_defined .atan .f64 a b c rfl, decodeRequest_commandWord .atan .f64 a b c⟩
theorem atanF128 (a b c : Port) : Statement (.atanF128 a b c) :=
  ⟨commandWord_defined .atan .f128 a b c rfl, decodeRequest_commandWord .atan .f128 a b c⟩
theorem powUF64 (a b c : Port) : Statement (.powUF64 a b c) :=
  ⟨commandWord_defined .pow .uf64 a b c rfl, decodeRequest_commandWord .pow .uf64 a b c⟩
theorem powF64 (a b c : Port) : Statement (.powF64 a b c) :=
  ⟨commandWord_defined .pow .f64 a b c rfl, decodeRequest_commandWord .pow .f64 a b c⟩
theorem powUF128 (a b c : Port) : Statement (.powUF128 a b c) :=
  ⟨commandWord_defined .pow .uf128 a b c rfl, decodeRequest_commandWord .pow .uf128 a b c⟩
theorem powF128 (a b c : Port) : Statement (.powF128 a b c) :=
  ⟨commandWord_defined .pow .f128 a b c rfl, decodeRequest_commandWord .pow .f128 a b c⟩

end Laws.EncodingAgrees

end Sys2Proof
end

