-- ==== Sys2Proof/Laws/Pi.lean ====
section
/-! SUPPORT. The first 24 decimals of π, for the range bounds of the inverse functions in the 128-bit types
(43_transcendental.md R222 to R224). Each list is a chain of bounds on nested square roots of 2, from below or above. -/
namespace Sys2Proof

theorem pi_gt_d24 : 3.141592653589793238462643 < Real.pi := by
  pi_lower_bound [
    14142135623730950488016887242096980785696718753769480731767 / 10000000000000000000000000000000000000000000000000000000000,
    18477590650225735122563663787935765736448332517272849722303 / 10000000000000000000000000000000000000000000000000000000000,
    2 - 384294391935391017476355277315219260521325382133278099941 / 10000000000000000000000000000000000000000000000000000000000,
    2 - 96305466556062275103260937810401568490502625402858763327 / 10000000000000000000000000000000000000000000000000000000000,
    2 - 24090875896552145704567904817986111135927705907764113143 / 10000000000000000000000000000000000000000000000000000000000,
    2 - 6023626075915597684687006676556062998778374845407507117 / 10000000000000000000000000000000000000000000000000000000000,
    2 - 1505963217109181567070176072335512987870623955643395118 / 10000000000000000000000000000000000000000000000000000000000,
    2 - 376494347977146860191245428645676521654981113298161196 / 10000000000000000000000000000000000000000000000000000000000,
    2 - 94123808476569768397485997602008940247327556246917785 / 10000000000000000000000000000000000000000000000000000000000,
    2 - 23530965961801419485796569479619034641542204699215522 / 10000000000000000000000000000000000000000000000000000000000,
    2 - 5882742355616795435645224686457674722013013967972163 / 10000000000000000000000000000000000000000000000000000000000,
    2 - 1470685642977105370385852242861035976886221544618705 / 10000000000000000000000000000000000000000000000000000000000,
    2 - 367671414123833061691941805709898478975144392932493 / 10000000000000000000000000000000000000000000000000000000000,
    2 - 91917853742180561337207877020822113936210943519384 / 10000000000000000000000000000000000000000000000000000000000,
    2 - 22979463448746533844108917831989251676114357531643 / 10000000000000000000000000000000000000000000000000000000000,
    2 - 5744865863011720555627164478218210841634294945785 / 10000000000000000000000000000000000000000000000000000000000,
    2 - 1436216465804498082322990194790393337809683960938 / 10000000000000000000000000000000000000000000000000000000000,
    2 - 359054116454347517044317852407216250074483982904 / 10000000000000000000000000000000000000000000000000000000000,
    2 - 89763529113788316540053511169707970693718176380 / 10000000000000000000000000000000000000000000000000000000000,
    2 - 22440882278459668964949269923015561789547699450 / 10000000000000000000000000000000000000000000000000000000000,
    2 - 5610220569615704105608310959639809999395722405 / 10000000000000000000000000000000000000000000000000000000000,
    2 - 1402555142403975205425264835789137065322702952 / 10000000000000000000000000000000000000000000000000000000000,
    2 - 350638785600996875045265402493621029695807737 / 10000000000000000000000000000000000000000000000000000000000,
    2 - 87659696400249410866875675220893300884632399 / 10000000000000000000000000000000000000000000000000000000000,
    2 - 21914924100062364723316376592579484121049999 / 10000000000000000000000000000000000000000000000000000000000,
    2 - 5478731025015591931241435259854836526874483 / 10000000000000000000000000000000000000000000000000000000000,
    2 - 1369682756253898029711130134445585187215756 / 10000000000000000000000000000000000000000000000000000000000,
    2 - 342420689063474510359080741079013600459367 / 10000000000000000000000000000000000000000000000000000000000,
    2 - 85605172265868627772976323236479482377475 / 10000000000000000000000000000000000000000000000000000000000,
    2 - 21401293066467156954694464432040250748036 / 10000000000000000000000000000000000000000000000000000000000,
    2 - 5350323266616789239389265084442586446804 / 10000000000000000000000000000000000000000000000000000000000,
    2 - 1337580816654197309892044332137679346691 / 10000000000000000000000000000000000000000000000000000000000,
    2 - 334395204163549327475806586848609382609 / 10000000000000000000000000000000000000000000000000000000000,
    2 - 83598801040887331869126365700539192273 / 10000000000000000000000000000000000000000000000000000000000,
    2 - 20899700260221832967292511361908975982 / 10000000000000000000000000000000000000000000000000000000000,
    2 - 5224925065055458241823810336525630115 / 10000000000000000000000000000000000000000000000000000000000,
    2 - 1306231266263864560455995240134431661 / 10000000000000000000000000000000000000000000000000000000000,
    2 - 326557816565966140114001476033796923 / 10000000000000000000000000000000000000000000000000000000000,
    2 - 81639454141491535028500535633461043 / 10000000000000000000000000000000000000000000000000000000000,
    2 - 20409863535372883757125144322428499 / 10000000000000000000000000000000000000000000000000000000000,
    2 - 5102465883843220939281286731486077 / 10000000000000000000000000000000000000000000000000000000000,
    2 - 1275616470960805234820321723551453 / 10000000000000000000000000000000000000000000000000000000000,
    2 - 318904117740201308705080433430359 / 10000000000000000000000000000000000000000000000000000000000]

theorem pi_lt_d24 : Real.pi < 3.141592653589793238462644 := by
  pi_upper_bound [
    14142135623730950488016887242096980785696718753769480731766 / 10000000000000000000000000000000000000000000000000000000000,
    18477590650225735122563663787935765736448332517272849722301 / 10000000000000000000000000000000000000000000000000000000000,
    2 - 384294391935391017476355277315219260521325382133278099942 / 10000000000000000000000000000000000000000000000000000000000,
    2 - 96305466556062275103260937810401568490502625402858763328 / 10000000000000000000000000000000000000000000000000000000000,
    2 - 24090875896552145704567904817986111135927705907764113144 / 10000000000000000000000000000000000000000000000000000000000,
    2 - 6023626075915597684687006676556062998778374845407507118 / 10000000000000000000000000000000000000000000000000000000000,
    2 - 1505963217109181567070176072335512987870623955643395119 / 10000000000000000000000000000000000000000000000000000000000,
    2 - 376494347977146860191245428645676521654981113298161198 / 10000000000000000000000000000000000000000000000000000000000,
    2 - 94123808476569768397485997602008940247327556246917786 / 10000000000000000000000000000000000000000000000000000000000,
    2 - 23530965961801419485796569479619034641542204699215523 / 10000000000000000000000000000000000000000000000000000000000,
    2 - 5882742355616795435645224686457674722013013967972165 / 10000000000000000000000000000000000000000000000000000000000,
    2 - 1470685642977105370385852242861035976886221544618706 / 10000000000000000000000000000000000000000000000000000000000,
    2 - 367671414123833061691941805709898478975144392932494 / 10000000000000000000000000000000000000000000000000000000000,
    2 - 91917853742180561337207877020822113936210943519386 / 10000000000000000000000000000000000000000000000000000000000,
    2 - 22979463448746533844108917831989251676114357531644 / 10000000000000000000000000000000000000000000000000000000000,
    2 - 5744865863011720555627164478218210841634294945786 / 10000000000000000000000000000000000000000000000000000000000,
    2 - 1436216465804498082322990194790393337809683960940 / 10000000000000000000000000000000000000000000000000000000000,
    2 - 359054116454347517044317852407216250074483982905 / 10000000000000000000000000000000000000000000000000000000000,
    2 - 89763529113788316540053511169707970693718176381 / 10000000000000000000000000000000000000000000000000000000000,
    2 - 22440882278459668964949269923015561789547699451 / 10000000000000000000000000000000000000000000000000000000000,
    2 - 5610220569615704105608310959639809999395722406 / 10000000000000000000000000000000000000000000000000000000000,
    2 - 1402555142403975205425264835789137065322702954 / 10000000000000000000000000000000000000000000000000000000000,
    2 - 350638785600996875045265402493621029695807738 / 10000000000000000000000000000000000000000000000000000000000,
    2 - 87659696400249410866875675220893300884632400 / 10000000000000000000000000000000000000000000000000000000000,
    2 - 21914924100062364723316376592579484121050000 / 10000000000000000000000000000000000000000000000000000000000,
    2 - 5478731025015591931241435259854836526874484 / 10000000000000000000000000000000000000000000000000000000000,
    2 - 1369682756253898029711130134445585187215757 / 10000000000000000000000000000000000000000000000000000000000,
    2 - 342420689063474510359080741079013600459368 / 10000000000000000000000000000000000000000000000000000000000,
    2 - 85605172265868627772976323236479482377476 / 10000000000000000000000000000000000000000000000000000000000,
    2 - 21401293066467156954694464432040250748037 / 10000000000000000000000000000000000000000000000000000000000,
    2 - 5350323266616789239389265084442586446805 / 10000000000000000000000000000000000000000000000000000000000,
    2 - 1337580816654197309892044332137679346692 / 10000000000000000000000000000000000000000000000000000000000,
    2 - 334395204163549327475806586848609382610 / 10000000000000000000000000000000000000000000000000000000000,
    2 - 83598801040887331869126365700539192274 / 10000000000000000000000000000000000000000000000000000000000,
    2 - 20899700260221832967292511361908975983 / 10000000000000000000000000000000000000000000000000000000000,
    2 - 5224925065055458241823810336525630116 / 10000000000000000000000000000000000000000000000000000000000,
    2 - 1306231266263864560455995240134431662 / 10000000000000000000000000000000000000000000000000000000000,
    2 - 326557816565966140114001476033796924 / 10000000000000000000000000000000000000000000000000000000000,
    2 - 81639454141491535028500535633461045 / 10000000000000000000000000000000000000000000000000000000000,
    2 - 20409863535372883757125144322428500 / 10000000000000000000000000000000000000000000000000000000000,
    2 - 5102465883843220939281286731486078 / 10000000000000000000000000000000000000000000000000000000000,
    2 - 1275616470960805234820321723551455 / 10000000000000000000000000000000000000000000000000000000000,
    2 - 318904117740201308705080433430360 / 10000000000000000000000000000000000000000000000000000000000]

end Sys2Proof
end

