-- ==== Sys2Proof/Laws/State.lean ====
section
/-! SUPPORT. What each update of the state does to each field, by rfl, so that no later proof unfolds a record
update; and for each shared operation on the state one lemma that says all it can do. The unit has no memory
(10_state.md R24), so there is no memory operation to speak of. -/
namespace Sys2Proof.Machine

variable (s : State) (q : Request) (st : Status) (r : Port) (p : PortInputs) (ps : List PortInputs)

@[simp] theorem State.reset_slot : State.reset.slot = .idle := rfl
@[simp] theorem State.reset_host : State.reset.host = [] := rfl
@[simp] theorem State.reset_requests : State.reset.requests = [] := rfl
@[simp] theorem State.reset_responses : State.reset.responses = [] := rfl
@[simp] theorem State.reset_samples : State.reset.samples = 0 := rfl

@[simp] theorem State.sampled_slot : s.sampled.slot = s.slot := rfl
@[simp] theorem State.sampled_host : s.sampled.host = s.host.tail := rfl
@[simp] theorem State.sampled_requests : s.sampled.requests = s.requests := rfl
@[simp] theorem State.sampled_responses : s.sampled.responses = s.responses := rfl
@[simp] theorem State.sampled_samples : s.sampled.samples = s.samples + 1 := rfl

@[simp] theorem State.recordRequest_slot : (s.recordRequest q).slot = s.slot := rfl
@[simp] theorem State.recordRequest_host : (s.recordRequest q).host = s.host := rfl
@[simp] theorem State.recordRequest_requests : (s.recordRequest q).requests = s.requests ++ [q] := rfl
@[simp] theorem State.recordRequest_responses : (s.recordRequest q).responses = s.responses := rfl
@[simp] theorem State.recordRequest_samples : (s.recordRequest q).samples = s.samples := rfl

@[simp] theorem resetUnit_slot : (resetUnit s).slot = .idle := rfl
@[simp] theorem resetUnit_host : (resetUnit s).host = s.host := rfl
@[simp] theorem resetUnit_requests : (resetUnit s).requests = s.requests.take s.responses.length := rfl
@[simp] theorem resetUnit_responses : (resetUnit s).responses = s.responses := rfl
@[simp] theorem resetUnit_samples : (resetUnit s).samples = s.samples := rfl

@[simp] theorem presentRequest_slot : (presentRequest s q).slot = s.slot := rfl
@[simp] theorem presentRequest_requests : (presentRequest s q).requests = s.requests := rfl
@[simp] theorem presentRequest_responses : (presentRequest s q).responses = s.responses := rfl
@[simp] theorem presentRequest_samples : (presentRequest s q).samples = s.samples := rfl
@[simp] theorem presentRequest_inputs :
    (presentRequest s q).inputs = { rst := false, reqValid := true, req := q, rspReady := false } := rfl
@[simp] theorem presentRequest_host_tail : (presentRequest s q).host.tail = s.host := rfl

/-- The inputs the unit samples are the head of what the host drives. -/
theorem State.inputs_of_host (h : s.host = p :: ps) : s.inputs = p := by simp [State.inputs, h]

/-- Where nothing is listed the host drives free values. -/
theorem State.inputs_of_host_nil (h : s.host = []) : s.inputs = PortInputs.free s.samples := by
  simp [State.inputs, h]

@[simp] theorem State.driven_slot : (s.driven p).slot = s.slot := rfl
@[simp] theorem State.driven_host : (s.driven p).host = p :: s.host := rfl
@[simp] theorem State.driven_requests : (s.driven p).requests = s.requests := rfl
@[simp] theorem State.driven_responses : (s.driven p).responses = s.responses := rfl
@[simp] theorem State.driven_samples : (s.driven p).samples = s.samples := rfl
@[simp] theorem State.driven_inputs : (s.driven p).inputs = p := rfl

/-- All `accept` can do: an idle slot takes the response, a pending one is left alone. -/
theorem accept_cases {s t : State} {x : Response} (h : accept s x = .next t) :
    (s.slot = .idle ∧ t = { s with slot := .pending x.status x.r }) ∨ (s.slot ≠ .idle ∧ t = s) := by
  unfold accept at h
  split at h <;> simp_all

@[simp] theorem accept_idle (h : s.slot = .idle) (x : Response) :
    accept s x = .next { s with slot := .pending x.status x.r } := by simp [accept, h]

@[simp] theorem accept_pending (h : s.slot = .pending st r) (x : Response) : accept s x = .next s := by
  simp [accept, h]

/-- `accept` always answers a next state. -/
theorem accept_answers (x : Response) : ∃ t, accept s x = .next t := by
  cases h : s.slot <;> simp [accept, h]

/-- All `deliver` can do: the pending response goes to the host and the slot is idle. -/
theorem deliver_pending (h : s.slot = .pending st r) :
    deliver s = { s with slot := .idle, responses := s.responses ++ [{ status := st, r := r }] } := by
  simp [deliver, h]

@[simp] theorem deliver_idle (h : s.slot = .idle) : deliver s = s := by simp [deliver, h]

@[simp] theorem freeSlot_idle (h : s.slot = .idle) : freeSlot s = s := by simp [freeSlot, h]

@[simp] theorem freeSlot_slot : (freeSlot s).slot = .idle := by
  unfold freeSlot
  split <;> simp_all

end Sys2Proof.Machine
end

