-- ==== Sys2Proof/Laws/Step.lean ====
section
/-! SUPPORT. What one step can do, said once (10_state.md R28): later proofs about runs cite it instead of unfolding
`step`. -/
namespace Sys2Proof.Machine

/-- Every step is a reset, a delivery, a held response, an accepted request or a quiet moment. -/
theorem step_cases (s : State) :
    (s.inputs.rst = true ∧ step s = .next (resetUnit s.sampled)) ∨
    (s.inputs.rst = false ∧ s.slot ≠ .idle ∧ s.inputs.rspReady = true ∧ step s = .next (deliver s.sampled)) ∨
    (s.inputs.rst = false ∧ s.slot ≠ .idle ∧ s.inputs.rspReady = false ∧ step s = .next s.sampled) ∨
    (s.inputs.rst = false ∧ s.slot = .idle ∧ s.inputs.reqValid = true ∧
      step s = takeRequest s.inputs.req s.sampled) ∨
    (s.inputs.rst = false ∧ s.slot = .idle ∧ s.inputs.reqValid = false ∧ step s = .next s.sampled) := by
  unfold step
  cases hr : s.inputs.rst <;> cases hs : s.slot <;> cases hv : s.inputs.reqValid <;> cases hd : s.inputs.rspReady <;>
    simp

/-- A request that decodes is taken by running its instruction on the state that has recorded it. -/
theorem takeRequest_ok {q : Request} {i : Instr} (h : decodeRequest q = .ok i) (s : State) :
    takeRequest q s = exec i (s.recordRequest q) := by simp [takeRequest, h]

/-- A request that does not decode is answered ILLEGAL. -/
theorem takeRequest_error {q : Request} {e : Illegal} (h : decodeRequest q = .error e) (s : State) :
    takeRequest q s = accept (s.recordRequest q) (illegalResponse Config.unit) := by simp [takeRequest, h]

end Sys2Proof.Machine
end

