-- ==== Sys2Proof/Tests/Slice0.lean ====
section
/-! SUPPORT. Tests of the model on single steps and single operations. The expected values are the spec's own: the
vectors of 95_test_vectors.md and 96_test_vectors_internal.md and the worked examples in the rules, unless a comment
says otherwise. The theorems `test_hyp_…` show for each obligation with hypotheses that something meets them all. -/
namespace Sys2Proof.Tests

open Sys2Proof Sys2Proof.Machine Host

set_option maxRecDepth 20000
set_option Elab.async false

/-! ## Ill-formed terms are refused -/

theorem test_illformed_command : Request.wellFormed { cmd := 0x0006, a := 0, b := 0, c := 0 } = false ∧
    Request.wellFormed { cmd := 0x0028, a := 0, b := 0, c := 0 } = false ∧
    Request.wellFormed { cmd := 0x0080, a := 0, b := 0, c := 0 } = false ∧
    Request.wellFormed { cmd := 0x0000, a := 0, b := 0, c := 0 } = true := by decide

theorem test_illformed_type : Op.admits .sqrt .f64 = false ∧ Op.admits .ln .f128 = false ∧
    Op.admits .exp .uf64 = false ∧ Op.admits .tan .uf128 = false ∧ Op.admits .atan .uf64 = false := by decide

theorem test_illformed_raw : Ty.holds .uf64 (-1) = false ∧ Ty.holds .uf64 18446744073709551616 = false ∧
    Ty.holds .f64 9223372036854775808 = false ∧ Ty.holds .f128 (-170141183460469231731687303715884105729) = false ∧
    Ty.holds .f64 (-9223372036854775808) = true := by decide

theorem test_illformed_table_k : Tab.kOk { smallTab with k := 0 } = false ∧ Tab.kOk { smallTab with k := 192 } = false :=
  by decide

theorem test_illformed_table_coefs : Tab.coefsOk { smallTab with sinCoef := [] } = false ∧
    Tab.coefsOk { smallTab with expCoef := [fix192Max + 1] } = false ∧
    Tab.coefsOk { smallTab with lnCoef := List.replicate 15 [0] } = false ∧
    Tab.coefsOk { smallTab with lnCoef := [0, 0] :: List.replicate 15 [0] } = false := by decide

theorem test_illformed_table_bounds : Tab.boundsOk { smallTab with lnBounds := [] } = false ∧
    Tab.boundsOk { smallTab with lnBounds := smallTab.lnBounds.set 3 s192 } = false ∧
    Tab.boundsOk { smallTab with lnBounds := smallTab.lnBounds.set 0 0 } = false ∧
    Tab.boundsOk { smallTab with ln2 := fix192Max + 1 } = false := by decide

theorem test_illformed_table_exp : Tab.expTabOk { smallTab with expTab := [] } = false ∧
    Tab.expTabOk { smallTab with kMin := 1 } = false ∧ Tab.expTabOk { smallTab with expTab := [2 ^ 192] } = false := by
  decide

theorem test_illformed_table_thresholds : Tab.thresholdsOk { smallTab with maxLnF64 := -1 } .f64 = false ∧
    Tab.thresholdsOk { smallTab with minLnF64 := -1 } .f64 = false ∧
    Tab.thresholdsOk { smallTab with maxLnF128 := 1000000000000000000000000 } .f128 = false := by decide

theorem test_illformed_table_angles : Tab.anglesOk { smallTab with halfPi := 0 } = false ∧
    Tab.anglesOk { smallTab with pi := 4 } = false ∧ Tab.anglesOk { smallTab with twoPi := 6 } = false ∧
    Tab.anglesOk { smallTab with twoPiRes := 2 ^ 64 } = false := by decide

theorem test_illformed_table_tan : Tab.tanMaxOk { smallTab with tanMaxF64 := 0 } .f64 = false ∧
    Tab.tanMaxOk { smallTab with tanMaxF64 := 9223372036854775808 } .f64 = false := by decide

/-! ## Every command word of 30_encoding.md R70, written out, decodes to its instruction -/

theorem test_decode_add :
    decodeTableWord 16 0x0000 = some (.addUF64 0 0 0) ∧
    decodeTableWord 16 0x0020 = some (.addF64 0 0 0) ∧
    decodeTableWord 16 0x0040 = some (.addUF128 0 0 0) ∧
    decodeTableWord 16 0x0060 = some (.addF128 0 0 0) := by decide +kernel

theorem test_decode_sub :
    decodeTableWord 16 0x0001 = some (.subUF64 0 0 0) ∧
    decodeTableWord 16 0x0021 = some (.subF64 0 0 0) ∧
    decodeTableWord 16 0x0041 = some (.subUF128 0 0 0) ∧
    decodeTableWord 16 0x0061 = some (.subF128 0 0 0) := by decide +kernel

theorem test_decode_mul :
    decodeTableWord 16 0x0002 = some (.mulUF64 0 0 0) ∧
    decodeTableWord 16 0x0022 = some (.mulF64 0 0 0) ∧
    decodeTableWord 16 0x0042 = some (.mulUF128 0 0 0) ∧
    decodeTableWord 16 0x0062 = some (.mulF128 0 0 0) := by decide +kernel

theorem test_decode_div :
    decodeTableWord 16 0x0003 = some (.divUF64 0 0 0) ∧
    decodeTableWord 16 0x0023 = some (.divF64 0 0 0) ∧
    decodeTableWord 16 0x0043 = some (.divUF128 0 0 0) ∧
    decodeTableWord 16 0x0063 = some (.divF128 0 0 0) := by decide +kernel

theorem test_decode_mod :
    decodeTableWord 16 0x0004 = some (.modUF64 0 0 0) ∧
    decodeTableWord 16 0x0024 = some (.modF64 0 0 0) ∧
    decodeTableWord 16 0x0044 = some (.modUF128 0 0 0) ∧
    decodeTableWord 16 0x0064 = some (.modF128 0 0 0) := by decide +kernel

theorem test_decode_fmd :
    decodeTableWord 16 0x0005 = some (.fmdUF64 0 0 0) ∧
    decodeTableWord 16 0x0025 = some (.fmdF64 0 0 0) ∧
    decodeTableWord 16 0x0045 = some (.fmdUF128 0 0 0) ∧
    decodeTableWord 16 0x0065 = some (.fmdF128 0 0 0) := by decide +kernel

theorem test_decode_sqrt :
    decodeTableWord 16 0x0008 = some (.sqrtUF64 0 0 0) ∧
    decodeTableWord 16 0x0048 = some (.sqrtUF128 0 0 0) := by decide +kernel

theorem test_decode_ln :
    decodeTableWord 16 0x0009 = some (.lnUF64 0 0 0) ∧
    decodeTableWord 16 0x0049 = some (.lnUF128 0 0 0) := by decide +kernel

theorem test_decode_exp :
    decodeTableWord 16 0x002A = some (.expF64 0 0 0) ∧
    decodeTableWord 16 0x006A = some (.expF128 0 0 0) := by decide +kernel

theorem test_decode_sin :
    decodeTableWord 16 0x002B = some (.sinF64 0 0 0) ∧
    decodeTableWord 16 0x006B = some (.sinF128 0 0 0) := by decide +kernel

theorem test_decode_cos :
    decodeTableWord 16 0x002C = some (.cosF64 0 0 0) ∧
    decodeTableWord 16 0x006C = some (.cosF128 0 0 0) := by decide +kernel

theorem test_decode_tan :
    decodeTableWord 16 0x002D = some (.tanF64 0 0 0) ∧
    decodeTableWord 16 0x006D = some (.tanF128 0 0 0) := by decide +kernel

theorem test_decode_asin :
    decodeTableWord 16 0x0030 = some (.asinF64 0 0 0) ∧
    decodeTableWord 16 0x0070 = some (.asinF128 0 0 0) := by decide +kernel

theorem test_decode_acos :
    decodeTableWord 16 0x0031 = some (.acosF64 0 0 0) ∧
    decodeTableWord 16 0x0071 = some (.acosF128 0 0 0) := by decide +kernel

theorem test_decode_atan :
    decodeTableWord 16 0x0032 = some (.atanF64 0 0 0) ∧
    decodeTableWord 16 0x0072 = some (.atanF128 0 0 0) := by decide +kernel

theorem test_decode_pow :
    decodeTableWord 16 0x0013 = some (.powUF64 0 0 0) ∧
    decodeTableWord 16 0x0033 = some (.powF64 0 0 0) ∧
    decodeTableWord 16 0x0053 = some (.powUF128 0 0 0) ∧
    decodeTableWord 16 0x0073 = some (.powF128 0 0 0) := by decide +kernel

/-- The fields of the 400 bits: `cmd` in 15:0, `a` in 143:16, `b` in 271:144, `c` in 399:272 (R60). -/
theorem test_decode_operand_fields : decodeTableWord 400
    0x000000000000000000000000000000030000000000000000000000000000000200000000000000000000000000000001_0065 =
      some (.fmdF128 1 2 3) := by decide +kernel

theorem test_decode_illegal :
    (decodeCommand 0x0006 = .error .reservedOp ∧ decodeCommand 0x007F = .error .reservedOp) ∧
    (decodeCommand 0x0080 = .error .zeroField ∧ decodeCommand 0x8000 = .error .zeroField) ∧
    (decodeTableWord 16 0x0028 = none ∧ decodeTableWord 16 0x0049 ≠ none ∧ decodeTableWord 16 0x0069 = none ∧
      decodeTableWord 16 0x000A = none ∧ decodeTableWord 16 0x0051 = none) := by decide +kernel

/-! ## One step of each instruction -/

/-- The slot after an instruction runs from reset. -/
def after (i : Instr) : Slot :=
  match exec i State.reset with
  | .next t => t.slot
  | .fault _ => .idle
  | .refused _ => .idle

/-- A port that holds the two's-complement pattern of an integer. -/
def pat (n : Int) : Port := BitVec.ofInt 128 n

/-- The upper bits of 64-bit operands and all of `c` are ignored (95_test_vectors.md section 6). -/
theorem test_add_uf64_ignored_bits : after (.addUF64 0x00000000DEADBEEF0000000000000003 0x80000000000000000000000000000004 0xFFFF) = .pending .ok 7 := by decide +kernel

theorem test_add_uf64_overflow : after (.addUF64 18446744073709551615 1 0) = .pending .overflow 0 := by decide +kernel

theorem test_add_f64_zero_extended : after (.addF64 0xFFFFFFFFFFFFFFFF 0xFFFFFFFFFFFFFFFF 0) = .pending .ok 0xFFFFFFFFFFFFFFFE := by decide +kernel

theorem test_add_f64_negOverflow : after (.addF64 (pat (-9223372036854775808)) (pat (-100000000)) 0) = .pending .negOverflow 0 := by decide +kernel

theorem test_add_uf128_overflow : after (.addUF128 340282366920938463463374607431768211455 340282366920938463463374607431768211455 0) = .pending .overflow 0 := by decide +kernel

theorem test_add_uf128_max : after (.addUF128 340282366920938463463374607431768211455 0 0) = .pending .ok 340282366920938463463374607431768211455 := by decide +kernel

theorem test_add_f128 : after (.addF128 (pat (-1)) 0 0) = .pending .ok 0xFFFFFFFFFFFFFFFFFFFFFFFFFFFFFFFF := by decide +kernel

theorem test_add_f128_overflow : after (.addF128 170141183460469231731687303715884105727 170141183460469231731687303715884105727 0) = .pending .overflow 0 := by decide +kernel

theorem test_sub_uf64_below_zero : after (.subUF64 100000000 200000000 0) = .pending .negOverflow 0 := by decide +kernel

theorem test_sub_uf64 : after (.subUF64 300000000 125000000 0) = .pending .ok 175000000 := by decide +kernel

theorem test_sub_f64_reaches_min : after (.subF64 (pat (-1)) 9223372036854775807 0) = .pending .ok 9223372036854775808 := by decide +kernel

theorem test_sub_f64_overflow : after (.subF64 0 (pat (-9223372036854775808)) 0) = .pending .overflow 0 := by decide +kernel

theorem test_sub_uf128_below_zero : after (.subUF128 0 1 0) = .pending .negOverflow 0 := by decide +kernel

theorem test_sub_uf128_same : after (.subUF128 340282366920938463463374607431768211455 340282366920938463463374607431768211455 0) = .pending .ok 0 := by decide +kernel

theorem test_sub_f128_negate : after (.subF128 0 1000000000000000000000000 0) = .pending .ok 0xFFFFFFFFFFFF2C3DE43133125F000000 := by decide +kernel

theorem test_sub_f128_negOverflow : after (.subF128 (pat (-170141183460469231731687303715884105728)) 1 0) = .pending .negOverflow 0 := by decide +kernel

theorem test_mul_uf64_tie : after (.mulUF64 3 50000000 0) = .pending .ok 2 := by decide +kernel

theorem test_mul_uf64_underflow : after (.mulUF64 1 49999999 0) = .pending .underflow 0 := by decide +kernel

theorem test_mul_f64_negative_tie : after (.mulF64 (pat (-1)) 50000000 0) = .pending .ok 0xFFFFFFFFFFFFFFFF := by decide +kernel

theorem test_mul_f64_negOverflow : after (.mulF64 (pat (-9223372036854775808)) 100000001 0) = .pending .negOverflow 0 := by decide +kernel

theorem test_mul_uf128_tie : after (.mulUF128 3 500000000000000000000000 0) = .pending .ok 2 := by decide +kernel

theorem test_mul_uf128_underflow : after (.mulUF128 1 100000000000000000000000 0) = .pending .underflow 0 := by decide +kernel

theorem test_mul_f128_min_times_minus_one : after (.mulF128 (pat (-170141183460469231731687303715884105728)) (pat (-1000000000000000000000000)) 0) = .pending .overflow 0 := by decide +kernel

theorem test_mul_f128_identity : after (.mulF128 170141183460469231731687303715884105727 1000000000000000000000000 0) = .pending .ok 170141183460469231731687303715884105727 := by decide +kernel

theorem test_div_uf64_rounds_up : after (.divUF64 200000000 300000000 0) = .pending .ok 66666667 := by decide +kernel

theorem test_div_uf64_zero : after (.divUF64 100000000 0 0) = .pending .divByZero 0 := by decide +kernel

theorem test_div_f64_min_by_minus_unit : after (.divF64 (pat (-9223372036854775808)) (pat (-1)) 0) = .pending .overflow 0 := by decide +kernel

theorem test_div_f64_negative_tie : after (.divF64 (pat (-1)) 200000000 0) = .pending .ok 0xFFFFFFFFFFFFFFFF := by decide +kernel

theorem test_div_uf128_tie : after (.divUF128 1 2000000000000000000000000 0) = .pending .ok 1 := by decide +kernel

theorem test_div_uf128_overflow : after (.divUF128 340282366920938463463374607431768211455 500000000000000000000000 0) = .pending .overflow 0 := by decide +kernel

theorem test_div_f128 : after (.divF128 (pat (-20000000000000000000000000)) 3000000000000000000000000 0) = .pending .ok 0xFFFFFFFFFFFA7C47469D547A79555555 := by decide +kernel

theorem test_div_f128_underflow : after (.divF128 (pat (-1)) (pat (-2000000000000000000000001)) 0) = .pending .underflow 0 := by decide +kernel

/-- By hand: 10 mod 3. -/
theorem test_mod_uf64 : after (.modUF64 10 3 0) = .pending .ok 1 := by decide +kernel

/-- `DIV`-like zero test, 41_fixed_arith.md R147. -/
theorem test_mod_uf64_zero : after (.modUF64 10 0 0) = .pending .divByZero 0 := by decide +kernel

theorem test_mod_f64_sign_of_dividend : after (.modF64 (pat (-750000000)) 200000000 0) = .pending .ok 0xFFFFFFFFF70F2E80 := by decide +kernel

theorem test_mod_f64_min_by_minus_unit : after (.modF64 (pat (-9223372036854775808)) (pat (-1)) 0) = .pending .ok 0 := by decide +kernel

theorem test_mod_uf128_zero : after (.modUF128 1000000000000000000000000 0 0) = .pending .divByZero 0 := by decide +kernel

theorem test_mod_uf128_same : after (.modUF128 340282366920938463463374607431768211455 340282366920938463463374607431768211455 0) = .pending .ok 0 := by decide +kernel

theorem test_mod_f128 : after (.modF128 (pat (-20000000000000000000000000)) 3000000000000000000000000 0) = .pending .ok 0xFFFFFFFFFFFE587BC8626624BE000000 := by decide +kernel

theorem test_mod_f128_min_by_max : after (.modF128 (pat (-170141183460469231731687303715884105728)) 170141183460469231731687303715884105727 0) = .pending .ok 0xFFFFFFFFFFFFFFFFFFFFFFFFFFFFFFFF := by decide +kernel

theorem test_fmd_uf64_no_intermediate_overflow : after (.fmdUF64 18446744073709551615 200000000 200000000) = .pending .ok 18446744073709551615 := by decide +kernel

theorem test_fmd_uf64_rounds_up : after (.fmdUF64 1 2 3) = .pending .ok 1 := by decide +kernel

theorem test_fmd_f64_negative_tie : after (.fmdF64 (pat (-1)) 1 2) = .pending .ok 0xFFFFFFFFFFFFFFFF := by decide +kernel

theorem test_fmd_f64_max : after (.fmdF64 9223372036854775807 200000000 200000000) = .pending .ok 9223372036854775807 := by decide +kernel

theorem test_fmd_uf128_tie : after (.fmdUF128 1 1 2) = .pending .ok 1 := by decide +kernel

theorem test_fmd_uf128_zero_numerator : after (.fmdUF128 0 340282366920938463463374607431768211455 1) = .pending .ok 0 := by decide +kernel

theorem test_fmd_f128_band_above_max : after (.fmdF128 190837 2674657170157818951225715721519686 3) = .pending .overflow 0 := by decide +kernel

theorem test_fmd_f128_both_zero : after (.fmdF128 0 0 0) = .pending .divByZero 0 := by decide +kernel

theorem test_sqrt_uf64 : after (.sqrtUF64 200000000 0 0) = .pending .ok 141421356 := by decide +kernel

theorem test_sqrt_uf64_max : after (.sqrtUF64 18446744073709551615 0 0) = .pending .ok 42949672960000 := by decide +kernel

theorem test_sqrt_uf128_unit : after (.sqrtUF128 1 0 0) = .pending .ok 1000000000000 := by decide +kernel

theorem test_sqrt_uf128_rounds_up : after (.sqrtUF128 2000000000000000000000000 0 0) = .pending .ok 1414213562373095048801689 := by decide +kernel

theorem test_ln_uf64_zero : after (.lnUF64 0 0 0) = .pending .domainError 0 := by decide +kernel

theorem test_ln_uf128_zero : after (.lnUF128 0 0 0) = .pending .domainError 0 := by decide +kernel

theorem test_asin_f64_range : after (.asinF64 (pat (-100000001)) 0 0) = .pending .rangeError 0 := by decide +kernel

theorem test_asin_f128_range : after (.asinF128 1000000000000000000000001 0 0) = .pending .rangeError 0 := by decide +kernel

theorem test_acos_f64_range : after (.acosF64 (pat (-9223372036854775808)) 0 0) = .pending .rangeError 0 := by decide +kernel

theorem test_acos_f128_range : after (.acosF128 (pat (-1000000000000000000000001)) 0 0) = .pending .rangeError 0 := by decide +kernel

/-! ## The table-dependent operations on a part of the example table of 95_test_vectors.md section 5.2 -/

/-- The constants of the example table that the vectors below read: all of SIN_COEF and EXP_COEF, EXP_TAB at 0 and 1,
LN_BOUNDS, and LN_COEF of sub-range 0. -/
def exampleTab : Tab :=
  { smallTab with
    k := 144
    sinCoef :=
      [0, 0,
       0, 0,
       0, -1,
       0, 1500,
       0, -1366705] ++
      [0, 1112814020,
       0, -804057672464,
       0, 511647483855566,
       0, -284267732774803769,
       0, 136541720727973561532] ++
      [0, -56055381905969940056422,
       0, 19407452253164193399448790,
       0, -5577229431788477520055083925,
       0, 1305104569814311060635725068438,
       0, -242892949225700130216846000838440] ++
      [0, 34900760994391047462757186958084785,
       0, -3725290876216988994102890257109539242,
       0, 280384219844078650721791004618272066417,
       0, -13812960117952241499889227263739120619314,
       0, 396950855295307443158670708947902209695002] ++
      [0, -5432095936891962896715855169091675096137249,
       0, 22300745198530623141535718272648361505980416,
       0]
    expCoef :=
      [1, 48,
       1500, 45896,
       1366705, 39567929,
       1112814020, 30376440022,
       804057672464, 20618128459128] ++
      [511647483855566, 12273521494099001,
       284267732774803769, 6348800447794509200,
       136541720727973561532, 2823616604770240162117,
       56055381905969940056422, 1066462278263104736746129,
       19407452253164193399448790, 337122833100185887175141406] ++
      [5577229431788477520055083925, 87654145096975778975001747461,
       1305104569814311060635725068438, 18352472357580877418459273817485,
       242892949225700130216846000838440, 3013745077879891241912976583745936,
       34900760994391047462757186958084785, 375300027152793624849959831196602419,
       3725290876216988994102890257109539242, 33896372278201115676765720812175833448] ++
      [280384219844078650721791004618272066417, 2087355516487449804460710270984178041885,
       13812960117952241499889227263739120619314, 79980689680767935694409573469973010824350,
       396950855295307443158670708947902209695002, 1641750258183103300511626670839317241878322,
       5432095936891962896715855169091675096137249, 13479973333575319897333507543509815336818572,
       22300745198530623141535718272648361505980416, 18446744073709551616000000000000000000000000]
    lnCoef := [
      [292815684357905537942660827467097163798036063, -249780565188315879093680101727223782940007276,
       213278597074903317999678936863625079309698252, -182300584591964533166107342778504488944957145,
       155995354377471994397821725835281475533922445, -133644773246147622584571420483511516400926029,
       114642749301898092902546863572997984558160079, -98477577268934452272058242423180507557520592,
       84717092395577526978386006346746958867186589, -72996183730713814050854568556320316570429338] ++
      [63006290058161953738980410166788495928353000, -54486562587049785426703651956607348715029289,
       47216429560315422841218229829161598165515410, -41009340882582024366023990418376725511938977,
       35707507064894862622726291106790132475055281, -31177477431496923331224522631360762660910236,
       27306428696093457497155703313453664471833341, -23999057691437043887069202423019124410998207,
       21174992258024900475922119806648937049591598, -18766653285855702665129936976898885981510625] ++
      [16717520357530902760336632964421744967427617, -14980776123852632564410876589908539446816475,
       13518335531616209661800568164999096001193275, -12300315572313620856784744768322366441573187,
       11305091744113251197102613306208729717923920, -10520271803096747014481979765760257331100680,
       9945331284925613879920243629892166845906347, -9597682761692152283329148816396761298922021,
       9526820527087378635808097014749653032680048, -9850501549098619803069760025035903451269935] ++
      [10864191873783925793431710338183350192274498, -13479973333575319897333507543509815336818572,
       22300745198530623141535718272648361505980416, 0]] ++ List.replicate 15 [0]
    lnBounds :=
      [18446744073709551616000000000000000000000000, 19263451207323153961545207446501683226525889,
       20116317054877281741967907253348394907091677, 21006942499405792876123744115550570572662921,
       21936999301089678046552158724600779498081021, 22908233235256451931254428748935836718746387,
       23922467369310646740224533007522157660060917, 24981605484746413452574238870739649930532191,
       26087635650665564424699143612505016737766553, 27242633955508776317316440548014836661086347] ++
      [28448768404004648378485681627594868970301183, 29708302986651435463767258114919874693245976,
       31023601929370129896450395074469591701550233, 32397134131305759266049578311179766404159391,
       33831477799106933341626387322060383638354879, 35329325286382475352965730247519957612040634,
       36893488147419103232000000000000000000000000]
    ln2 := 12786308645202655659788630699742451794561971
    expTab := [22300745198530623141535718272648361505980416,
      60619710434261096015522105645028920202322663]
    kMin := 0
    kMax := 1
    minLnF64 := -1911382792
    minLnF128 := -55955189412417041725849027
    maxLnF64 := 2594073881
    maxLnF128 := 33460796879815903188973916
    twoPi := 115904311329233965478149216911761758199376437
    twoPiRes := 4886854831257614257
    pi := 57952155664616982739074608455880879099688219
    halfPi := 28976077832308491369537304227940439549844109
    tanMaxF64 := 9223372036854775807
    tanMaxF128 := 170141183460469231731687303715884105727 }

/-- Configuration functions made up for the tests: they tell the operands apart. -/
def testFns : OpaqueFns where
  asinFn := fun _ v => if v = 0 then 7 else 0
  acosFn := fun _ v => if v = 0 then 11 else 0
  atanFn := fun _ v => if v = 0 then 13 else 0
  powFn := fun t x y => if x = 2 ∧ y = 3 then .value t.max else .error .domainError
  asin_range := by intro t v; cases t <;> (split <;> decide)
  acos_range := by intro t v; cases t <;> (split <;> decide)
  atan_range := by intro t v; cases t <;> (split <;> decide)
  pow_range := by
    intro t x y q h
    split at h
    · cases h; exact ⟨Ty.min_le_max t, le_refl _⟩
    · cases h

/-- A configuration for the tests. -/
def testCfg : Cfg := { Config.unit with tab := exampleTab, fns := testFns }

/-- What the unit built with `testCfg` answers to a command word and its operands. -/
def ask (cmd : CommandWord) (a : Port) (b : Port := 0) : Response :=
  execRequest testCfg { cmd := cmd, a := a, b := b, c := 0 }

theorem test_ln_uf64_one_above : ask 0x0009 100000001 = ⟨.ok, 1⟩ := by decide +kernel

theorem test_ln_uf64_negative : ask 0x0009 50000000 = ⟨.ok, 18446744073640236898⟩ := by decide +kernel

theorem test_ln_uf128_two : ask 0x0049 2000000000000000000000000 = ⟨.ok, 693147180559945309417232⟩ := by decide +kernel

theorem test_ln_uf128_half : ask 0x0049 500000000000000000000000 = ⟨.ok, 340282366920937770316194047486458794224⟩ := by decide +kernel

theorem test_exp_f64_one : ask 0x002A 100000000 = ⟨.ok, 271828183⟩ := by decide +kernel

theorem test_exp_f64_above_threshold : ask 0x002A 2594073882 = ⟨.overflow, 0⟩ := by decide +kernel

theorem test_exp_f128_one : ask 0x006A 1000000000000000000000000 = ⟨.ok, 2718281828459045235360287⟩ := by decide +kernel

theorem test_exp_f128_below_threshold : ask 0x006A (pat (-55955189412417041725849028)) = ⟨.underflow, 0⟩ := by decide +kernel

theorem test_sin_f64_max : ask 0x002B 9223372036854775807 = ⟨.ok, 53579427⟩ := by decide +kernel

theorem test_sin_f64_clamps_to_zero : ask 0x002B 314159265 = ⟨.ok, 0⟩ := by decide +kernel

theorem test_sin_f128_one : ask 0x006B 1000000000000000000000000 = ⟨.ok, 841470984807896506652502⟩ := by decide +kernel

theorem test_sin_f128_above_pi : ask 0x006B 3141592653589793238462644 = ⟨.ok, 340282366920938463463374607431768211455⟩ := by decide +kernel

theorem test_cos_f64_100 : ask 0x002C 10000000000 = ⟨.ok, 86231887⟩ := by decide +kernel

theorem test_cos_f64_min : ask 0x002C (pat (-9223372036854775808)) = ⟨.ok, 18446744073625116759⟩ := by decide +kernel

theorem test_cos_f128_one : ask 0x006C 1000000000000000000000000 = ⟨.ok, 540302305868139717400937⟩ := by decide +kernel

theorem test_cos_f128_max : ask 0x006C 170141183460469231731687303715884105727 = ⟨.ok, 340282366920938181527483079886643084815⟩ := by decide +kernel

theorem test_tan_f64_quarter : ask 0x002D 78539816 = ⟨.ok, 99999999⟩ := by decide +kernel

theorem test_tan_f64_underflow : ask 0x002D 314159265 = ⟨.underflow, 0⟩ := by decide +kernel

theorem test_tan_f128_overflow : ask 0x006D 1570796326794896619231321 = ⟨.overflow, 0⟩ := by decide +kernel

theorem test_tan_f128_negOverflow : ask 0x006D 1570796326794896619231322 = ⟨.negOverflow, 0⟩ := by decide +kernel

/-! The values of the opaque operations are those of `testFns`, made up here. -/

theorem test_asin_f64_value : ask 0x0030 0 = ⟨.ok, 7⟩ := by decide +kernel

theorem test_asin_f128_value : ask 0x0070 0 = ⟨.ok, 7⟩ := by decide +kernel

theorem test_acos_f64_value : ask 0x0031 0 = ⟨.ok, 11⟩ := by decide +kernel

theorem test_acos_f128_value : ask 0x0071 0 = ⟨.ok, 11⟩ := by decide +kernel

theorem test_atan_f64_value : ask 0x0032 0 = ⟨.ok, 13⟩ := by decide +kernel

theorem test_atan_f128_value : ask 0x0072 0 = ⟨.ok, 13⟩ := by decide +kernel

theorem test_pow_uf64_value : ask 0x0013 2 3 = ⟨.ok, 18446744073709551615⟩ := by decide +kernel

theorem test_pow_f64_value : ask 0x0033 2 3 = ⟨.ok, 9223372036854775807⟩ := by decide +kernel

theorem test_pow_uf128_value : ask 0x0053 2 3 = ⟨.ok, 340282366920938463463374607431768211455⟩ := by decide +kernel

theorem test_pow_f128_error : ask 0x0073 3 2 = ⟨.domainError, 0⟩ := by decide +kernel

/-! ## The internal datapath (96_test_vectors_internal.md) -/

theorem test_rdiv_modes : rdiv .halfUp (-3) 2 = -2 ∧ rdiv .down (-3) 2 = -1 ∧ rdiv .halfUp 3 (-2) = -2 := by
  decide +kernel

theorem test_add_limbs : addU (0xFFFFFFFFFFFFFFFF : BitVec 128) 1 false = (0x10000000000000000, false) ∧
    add64c 0xFFFFFFFFFFFFFFFF 0xFFFFFFFFFFFFFFFF true = (0xFFFFFFFFFFFFFFFF, true) := by decide +kernel

theorem test_sub_limbs : subU (0x10000000000000000 : BitVec 128) 1 false = (0xFFFFFFFFFFFFFFFF, false) ∧
    sub64b 0 0xFFFFFFFFFFFFFFFF true = (0, true) := by decide +kernel

theorem test_signed_limbs : addSLimbs (9223372036854775807 : BitVec 64) 1 = (0x8000000000000000, 1) ∧
    subSLimbs (0x8000000000000000 : BitVec 64) 1 = (0x7FFFFFFFFFFFFFFF, -1) := by decide +kernel

theorem test_mul_limbs : mulU (0x10000000000000000 : BitVec 128) 0x10000000000000000 = (1 : BitVec 256) <<< 128 ∧
    mulc64 3 5 7 1 = (0, 23) ∧ mul64 0x100000000 0x100000000 = (1, 0) := by decide +kernel

theorem test_mul_signed : mulS (0xFFFFFFFFFFFFFFFD : BitVec 64) 5 = 0xFFFFFFFFFFFFFFFFFFFFFFFFFFFFFFF1 := by
  decide +kernel

theorem test_sign_helpers : negN (0x8000000000000000 : BitVec 64) = (0x8000000000000000, true) ∧
    absN (0x8000000000000000 : BitVec 64) = 0x8000000000000000 ∧ signN (0xFFFFFFFFFFFFFFFB : BitVec 64) = -1 := by
  decide +kernel

theorem test_shifts : shl (0x80000000000000000000000000000001 : BitVec 128) 1 = (2, 1) ∧
    shr (0x80000000000000000000000000000001 : BitVec 128) 1 = 0x40000000000000000000000000000000 ∧
    (sar (BitVec.ofInt 192 (-5)) 1).toInt = -3 := by decide +kernel

theorem test_compare : cmpU (BitVec.ofInt 128 (-1)) 0 = .gt ∧ cmpS (BitVec.ofInt 128 (-1)) 0 = .lt := by decide +kernel

/-- By hand from R115: widths that are no whole number of limbs. -/
theorem test_compare_partial_limb :
    cmpU (0x10000000000000000 : BitVec 65) 0 = .gt ∧ cmpS (0x10000000000000000 : BitVec 65) 0 = .lt ∧
    cmpS (0x08000000000000000 : BitVec 65) 0 = .gt ∧ cmpU (3 : BitVec 5) 5 = .lt ∧ cmpS (17 : BitVec 5) 5 = .lt ∧
    cmpU ((1 : BitVec 257) <<< 256) 7 = .gt := by decide +kernel

theorem test_udivrem : udivrem 30000000000000001 100000000 = (300000000, 1) := by decide +kernel

theorem test_fix192 : f192MulSh 1 (-3) 5 = some (-8) ∧ f192Add fix192Max 1 = none ∧ f192Sub 0 fix192Min = none ∧
    widen .f128 (-1) = -18446744073709551616 := by decide +kernel

theorem test_poly : poly 4 [1, 2, 3] 32 = some 11 ∧ poly 4 [-1, 0, 5] (-24) = some 3 ∧
    poly 4 [1, -3, 0, 2] (-7) = some 1 ∧ poly 4 [7] 1000 = some 7 := by decide +kernel

theorem test_narrow : narrow .halfUp .f64 92233720368547758080000000000000000 false = .value 1 ∧
    narrow .down .f64 92233720368547758080000000000000000 false = .error .underflow ∧
    narrow .halfUp .f64 92233720368547758079999999999999999 true = .value 0 ∧
    narrow .halfUp .uf64 (-1) true = .error .negOverflow := by decide +kernel

theorem test_lnNorm : lnNorm .uf64 1 = (-27, 24758800785707605497982484480000000000000000) ∧
    lnNorm .uf128 Ty.uf128.max = (48, 22300745198530623141535718272648361505914880) := by decide +kernel

/-- The toy constants of 96_test_vectors_internal.md section 4. -/
def toyTab : Tab := { smallTab with twoPi := 628, twoPiRes := 0, pi := 314, halfPi := 157 }

theorem test_reduce : reduceWide toyTab 1000 = -256 ∧ reduceWide toyTab (-314) = 314 ∧ reduceWide toyTab 942 = 314 ∧
    reduceWide { toyTab with twoPiRes := 2 ^ 63 } 6280 = -5 ∧
    reduceWide { toyTab with twoPiRes := 2 ^ 63 } (-6280) = 5 := by decide +kernel

theorem test_fold : sinFold toyTab 200 = 114 ∧ sinFold toyTab (-200) = -114 ∧ cosShift toyTab 200 = -271 ∧
    sinFold toyTab (cosShift toyTab 200) = -43 ∧ cosShift toyTab (-157) = 0 := by decide +kernel

/-! ## The steps of the unit (95_test_vectors.md, program 5) -/

def input (rst valid ready : Bool) (cmd : CommandWord) (a b : Port) : PortInputs :=
  { rst := rst, reqValid := valid, req := { cmd := cmd, a := a, b := b, c := 0 }, rspReady := ready }

/-- The state after `k` steps from reset when the host drives the given inputs. -/
def runWith (k : Nat) (ps : List PortInputs) : State :=
  match Sys2Proof.core.run k { State.reset with host := ps } with
  | .next t => t
  | .fault _ => State.reset
  | .refused _ => State.reset

/-- The host's side of program 5 from event 1 to event 11. -/
def program5 : List PortInputs :=
  [input true false false 0 0 0, input false false false 0 0 0, input false true false 0x0000 100000000 100000000,
   input false false false 0 0 0, input false false true 0 0 0, input false true false 0x0003 100000000 0,
   input true false false 0 0 0, input false true false 0x0003 100000000 0, input false false true 0 0 0,
   input false true false 0x0006 0 0, input false false true 0 0 0]

theorem test_step_accept : (runWith 3 program5).slot = .pending .ok 200000000 ∧
    (runWith 4 program5).slot = .pending .ok 200000000 ∧ (runWith 5 program5).slot = .idle := by decide +kernel

theorem test_step_reset_drops : (runWith 6 program5).slot = .pending .divByZero 0 ∧ (runWith 7 program5).slot = .idle ∧
    (runWith 7 program5).responses = [⟨.ok, 200000000⟩] := by decide +kernel

theorem test_step_delivered : (runWith 11 program5).slot = .idle ∧
    (runWith 11 program5).responses = [⟨.ok, 200000000⟩, ⟨.divByZero, 0⟩, ⟨.illegal, 0⟩] := by decide +kernel

theorem test_ports : reqReady (runWith 3 program5) (input false false false 0 0 0) = false ∧
    rspStatus (runWith 6 program5) (input false false false 0 0 0) = 4 ∧
    rspValid (runWith 6 program5) (input true false false 0 0 0) = false := by decide +kernel

/-- The slot after one step. -/
def slotAfterStep (s : State) : Slot :=
  match step s with
  | .next t => t.slot
  | .fault _ => .idle
  | .refused _ => .idle

theorem test_withFetchWord : slotAfterStep (State.reset.withFetchWord 16 0x0063) = .pending .divByZero 0 ∧
    slotAfterStep ((runWith 6 program5).withFetchWord 144 0x00000000000000000000000000000004_0000) = .pending .ok 4 := by
  decide +kernel

theorem test_response_layout : Response.toBits ⟨.rangeError, 1⟩ = 0x16 ∧ Response.ofBits 0x18 = none ∧
    Response.ofBits 0x10 = some ⟨.ok, 1⟩ := by decide +kernel

/-! ## The written form (95_test_vectors.md, program 1) -/

theorem test_written_program1 : runLines testCfg []
    [⟨some "p", .mul, .uf64, [.numeral 30 1, .numeral 3 0]⟩, ⟨some "q", .mul, .uf64, [.numeral 40 1, .raw 400000000]⟩,
     ⟨some "s", .add, .uf64, [.bound "p", .bound "q"]⟩, ⟨some "h", .sqrt, .uf64, [.bound "s"]⟩] =
      some [⟨.ok, 900000000⟩, ⟨.ok, 1600000000⟩, ⟨.ok, 2500000000⟩, ⟨.ok, 500000000⟩] := by decide +kernel

theorem test_written_refused : Line.request [] ⟨none, .add, .uf64, [.max]⟩ = none ∧
    Literal.pattern [] .uf64 (.numeral 1 9) = none ∧ Literal.pattern [] .uf64 (.raw (-1)) = none ∧
    Literal.pattern [] .f64 (.raw (-1)) = some 0xFFFFFFFFFFFFFFFF := by decide +kernel

/-! ## Every obligation with hypotheses has something that meets them -/

/-- An idle state whose host presents a request with operands 1 and 2. -/
def offered (cmd : CommandWord) : State := presentRequest State.reset { cmd := cmd, a := 1, b := 2, c := 0 }

/-- The state after an ADD of 1 and 2 was accepted, with the next inputs still to come. -/
def held (ps : List PortInputs) : State :=
  { State.reset with slot := .pending .ok 3, requests := [{ cmd := 0, a := 1, b := 2, c := 0 }], host := ps }

theorem test_hyp_encode : Instr.wellFormed (.fmdF128 1 2 3) = true ∧
    decodeBits (encodeBits (.powF128 1 2 3)) = .ok (.powF128 1 2 3) := by decide +kernel

theorem test_hyp_illegal : (offered 0x0006).slot = .idle ∧ (offered 0x0006).inputs.rst = false ∧
    (offered 0x0006).inputs.reqValid = true ∧ decodeRequest (offered 0x0006).inputs.req = .error .reservedOp ∧
    (held [input false false true 0 0 0]).inputs.rspReady = true ∧
    { held [input false false true 0 0 0] with slot := .pending .illegal 0 }.slot = .pending .illegal 0 := by
  decide +kernel

theorem test_hyp_step_runs : (offered 0x0003).slot = .idle ∧ (offered 0x0003).inputs.rst = false ∧
    (offered 0x0003).inputs.reqValid = true ∧
    decodeRequest (offered 0x0003).inputs.req = .ok (.divUF64 1 2 0) ∧
    decodeTableWord 16 0x0003 = some (.divUF64 0 0 0) := by decide +kernel

theorem test_hyp_result_bounds : (∀ t ∈ [Ty.uf64, .f64, .uf128, .f128], t.min ≤ t.min ∧ t.min ≤ t.max) ∧
    operand .f64 (resultPattern .f64 Ty.f64.min) = Ty.f64.min ∧
    operand .uf128 (resultPattern .uf128 Ty.uf128.max) = Ty.uf128.max := by decide +kernel

theorem test_hyp_unused : (Instr.sqrtUF64 (2 ^ 64 + 4) 5 6).op = (Instr.sqrtUF64 4 7 8).op ∧
    (Instr.sqrtUF64 (2 ^ 64 + 4) 5 6).ty = (Instr.sqrtUF64 4 7 8).ty ∧
    SameUsedOperands (.sqrtUF64 (2 ^ 64 + 4) 5 6) (.sqrtUF64 4 7 8) ∧
    SameUsedOperands (.addF64 (2 ^ 64 + 4) 5 6) (.addF64 4 5 8) := by
  unfold SameUsedOperands; decide +kernel

theorem test_hyp_status_codes : Status.ofCode 8 = none ∧ Status.ofCode 15 = none ∧ Status.ofCode 7 = some .illegal := by
  decide

theorem test_hyp_steps : (held [input false false true 0 0 0]).inputs.rst = false ∧
    (held [input false false true 0 0 0]).inputs.rspReady = true ∧ (held [input false false false 0 0 0]).inputs.rspReady = false ∧
    (held [input true true true 0 0 0]).inputs.rst = true ∧
    (State.reset.driven (input false false false 0 0 0)).inputs.reqValid = false ∧
    State.reset.slot = .idle ∧ (held []).slot ≠ .idle := by decide +kernel

theorem test_hyp_consistent : Consistent (held [input true false false 0 0 0]) ∧ Consistent State.reset ∧
    (held [input true false false 0 0 0]).slot = .pending .ok 3 ∧
    (held [input true false false 0 0 0]).requests = [] ++ [{ cmd := 0, a := 1, b := 2, c := 0 }] ∧
    (held [input true false false 0 0 0]).inputs.rst = true := by
  unfold Consistent; decide +kernel

theorem test_hyp_consistent_step : ∃ t, step (held [input true false false 0 0 0]) = .next t := ⟨_, rfl⟩

theorem test_hyp_held : (held []).slot = .pending .ok 3 ∧ (held [input false false false 0 0 0]).inputs.rst = false ∧
    (held [input false false false 0 0 0]).inputs.rspReady = false ∧ reqReady (offered 0) (offered 0).inputs = true ∧
    (offered 0).inputs.reqValid = true ∧
    rspValid (runWith 1 [input false true false 0 1 2]) (input false false false 0 0 0) = true := by decide +kernel

theorem test_hyp_run : ∃ t, Sys2Proof.core.run 2 (held [input false false true 0 0 0, input false true false 6 0 0]) = .next t := ⟨_, rfl⟩

/-- A host that falls silent for ever. -/
theorem test_hyp_infinite_run :
    InfiniteRun (fun _ => input false false false 0 0 0) (fun n => { State.reset with samples := n }) ∧
    Consistent { State.reset with samples := 0 } :=
  ⟨⟨rfl, fun _ => rfl⟩, rfl⟩

/-- What the host of the next test always presents. -/
def reserved : Request := { cmd := 6, a := 0, b := 0, c := 0 }

/-- The states of an endless run in which the host always presents `reserved` and always takes the response. -/
def endless (n : Nat) : State where
  slot := if n % 2 = 0 then .idle else .pending .illegal 0
  host := []
  requests := List.replicate ((n + 1) / 2) reserved
  responses := List.replicate (n / 2) ⟨.illegal, 0⟩
  samples := n

theorem test_hyp_endless_run :
    InfiniteRun (fun _ => { rst := false, reqValid := true, req := reserved, rspReady := true }) endless := by
  refine ⟨rfl, fun n => ?_⟩
  have he : ∀ s : State, takeRequest reserved s = accept (s.recordRequest reserved) ⟨.illegal, 0⟩ := fun _ => rfl
  rcases Nat.even_or_odd' n with ⟨k, rfl | rfl⟩
  · have h1 : (2 * k + 1) / 2 = k := by omega
    have h2 : (2 * k + 1 + 1) / 2 = k + 1 := by omega
    simp [step, he, endless, accept, State.sampled, State.recordRequest, State.driven, State.inputs, h1, h2,
      List.replicate_succ', Nat.add_mod]
  · have h1 : (2 * k + 1) / 2 = k := by omega
    have h2 : (2 * k + 1 + 1) / 2 = k + 1 := by omega
    have h3 : (2 * k + 1 + 1 + 1) / 2 = k + 1 := by omega
    simp [step, endless, deliver, State.sampled, State.driven, State.inputs, h1, h2, h3, List.replicate_succ',
      Nat.add_mod]

theorem test_hyp_run_observation : ∃ t, Sys2Proof.core.run 1 (held [input false false true 0 0 0]) = .next t ∧
    (({ cmd := 0, a := 1, b := 2, c := 0 } : Request), (⟨.ok, 3⟩ : Response)) ∈ t.observation := by
  refine ⟨_, rfl, ?_⟩; decide

theorem test_hyp_history : (offered 5).slot = .idle ∧ (offered 5).inputs.rst = false ∧
    (offered 5).inputs.reqValid = true ∧ { offered 5 with samples := 9 }.slot = .idle ∧
    { offered 5 with samples := 9 }.inputs.rst = false ∧ { offered 5 with samples := 9 }.inputs.reqValid = true ∧
    (offered 5).inputs.req = { offered 5 with samples := 9 }.inputs.req := by decide +kernel

theorem test_hyp_statuses : decodeRequest { cmd := 0x0003, a := 1, b := 0, c := 0 } = .ok (.divUF64 1 0 0) ∧
    (ask 0x0003 1).status ≠ .ok ∧ decodeRequest { cmd := 0x0000, a := 1, b := 0, c := 0 } = .ok (.addUF64 1 0 0) ∧
    (ask 0x0000 1).status = .ok := by decide +kernel

theorem test_hyp_operand_tests : decodeRequest { cmd := 0x0006, a := 1, b := 0, c := 0 } = .error .reservedOp ∧
    Ty.f64.scale < ((-100000001 : Int).natAbs : Int) ∧ (-1911382793 : Int) < exampleTab.minLnRaw .f64 ∧
    exampleTab.minLnRaw .f64 ≤ 2594073882 ∧ exampleTab.maxLnRaw .f64 < 2594073882 := by decide

theorem test_hyp_idle : State.reset.slot = .idle ∧ (offered 0).slot = .idle := by decide

theorem test_hyp_finish : (-3 : Int) ≠ 0 ∧ (7 : Int) = (if (-3 : Int) < 0 then -(-7) else -7) ∧
    (3 : Int) = ((-3 : Int).natAbs : Int) ∧ finish .halfUp .f64 (-7) (-3) = .value 2 ∧
    finish .halfUp .uf64 18446744073709551615 1 = .value 18446744073709551615 ∧
    finish .halfUp .uf64 (-1) 2 = .error .negOverflow ∧ finish .down .f64 1 2 = .error .underflow := by decide

theorem test_hyp_laws : Ty.f64.min ≤ Ty.f64.min ∧ Ty.f64.min ≤ Ty.f64.max ∧ Ty.f64.max ≤ Ty.f64.max ∧ (2 : Int) ≠ 0 ∧
    finish .halfUp .f64 3 2 = .value 2 := by decide

theorem test_hyp_widen : fix192Min ≤ fix192Min ∧ fix192Max ≤ fix192Max ∧ fix192Min ≤ fix192Max ∧ Ty.f128 ≠ Ty.uf128 ∧
    Ty.f128.min ≤ Ty.f128.min ∧ Ty.f128.min ≤ Ty.f128.max ∧
    fix192Join (fix192Hi fix192Min) (fix192Lo fix192Min) = fix192Min := by decide +kernel

theorem test_hyp_shift_bounds : 1 ≤ 1 ∧ 1 ≤ 191 ∧ 191 ≤ 191 ∧ f192MulSh 191 fix192Min fix192Min = none ∧
    f192MulSh 191 1 (-1) = some (-1) := by decide +kernel

theorem test_hyp_exp_split : smallTab.wf = true ∧ Ty.f64.signed = true ∧ smallTab.minLnRaw .f64 ≤ 0 ∧
    0 ≤ smallTab.maxLnRaw .f64 := by decide

theorem test_hyp_ln_norm : Ty.uf64.signed = false ∧ (0 : Int) < 1 ∧ 1 ≤ Ty.uf64.max ∧ Ty.uf128.signed = false ∧
    0 < Ty.uf128.max ∧ Ty.uf128.max ≤ Ty.uf128.max ∧ lnNorm .uf64 100000000 = (0, s192) := by decide +kernel

theorem test_hyp_ln_normalised : NormalisedBy (widen .uf64 100000000) 0 s192 ∧
    NormalisedBy (widen .uf128 500000000000000000000000) (-1) s192 :=
  ⟨Or.inl ⟨0, by decide⟩, Or.inr ⟨1, by decide⟩⟩

theorem test_hyp_ln_select : smallTab.wf = true ∧ s192 ≤ s192 ∧ s192 < 2 * s192 ∧ s192 ≤ 2 * s192 - 1 ∧
    2 * s192 - 1 < 2 * s192 ∧ lnSelect smallTab s192 = 0 ∧ lnSelect smallTab (2 * s192 - 1) = 15 := by decide +kernel

/-- Toy constants with a residual of one half. -/
def toyHalf : Tab := { toyTab with twoPiRes := 2 ^ 63 }

theorem test_hyp_reduce : AnglesRelated toyTab ∧ AnglesRelated toyHalf ∧ AnglesRelated exampleTab ∧
    toyTab.twoPiRes = 0 ∧ toyTab.twoPi ≤ 2 * toyTab.pi := by
  unfold AnglesRelated; decide +kernel

theorem test_hyp_reduce_turns : (NearestAway 394384 toyHalf.twoPi 628 ∧
    (314 : Int) = 628 * (toyHalf.twoPiRes : Int) / 18446744073709551616 ∧ ((314 : Int).natAbs : Int) ≤ toyHalf.pi) ∧
    NearestAway 628000 toyHalf.twoPi 1000 ∧ (500 : Int) = 1000 * (toyHalf.twoPiRes : Int) / 18446744073709551616 := by
  unfold NearestAway; decide +kernel

theorem test_hyp_reduce_operands : Ty.f128.signed = true ∧ Ty.f128.min ≤ Ty.f128.min ∧ Ty.f128.min ≤ Ty.f128.max ∧
    6 * s192 ≤ exampleTab.twoPi ∧ isFix192 exampleTab.twoPi = true ∧ exampleTab.twoPiRes < 18446744073709551616 ∧
    NearestAway (widen .f128 Ty.f128.min) exampleTab.twoPi (-27078810371239) ∧
    exampleTab.twoPi ≤ 2 * exampleTab.pi := by
  unfold NearestAway; decide +kernel

theorem test_hyp_fold : 0 < toyTab.halfPi ∧ toyTab.halfPi < 158 ∧ (-158 : Int) < -toyTab.halfPi ∧
    -toyTab.halfPi ≤ 157 ∧ (157 : Int) ≤ toyTab.halfPi ∧ sinFold toyTab 158 = 156 ∧ sinFold toyTab (-158) = -156 ∧
    sinFold toyTab 157 = 157 := by decide +kernel

theorem test_hyp_shift : 157 + toyTab.halfPi ≤ toyTab.pi ∧ toyTab.pi < 158 + toyTab.halfPi ∧
    cosShift toyTab 157 = 314 ∧ cosShift toyTab 158 = -313 ∧ toyTab.twoPi ≤ 2 * toyTab.pi ∧ -toyTab.pi < -313 ∧
    (314 : Int) ≤ toyTab.pi ∧ -toyTab.pi - 1 ≤ -315 ∧ (315 : Int) ≤ toyTab.pi + 1 ∧ sinFold toyTab (-315) = 1 ∧
    sinFold toyTab 315 = -1 := by decide +kernel

theorem test_hyp_table_free : (-1 : Int) < smallTab.minLnRaw .f64 ∧ smallTab.minLnRaw .f64 ≤ 1 ∧
    smallTab.maxLnRaw .f64 < 1 ∧
    sinResult { smallTab with sinCoef := [fix192Max] } .halfUp .f64 0 = .error .overflow := by decide +kernel

theorem test_hyp_members :
    (Instr.sqrtUF64 1 2 3, Ty.uf64) ∈ [(Instr.sqrtUF64 1 2 3, Ty.uf64), (Instr.sqrtUF128 1 2 3, Ty.uf128)] ∧
    (Instr.tanF128 1 2 3, Ty.f128) ∈ [(Instr.tanF64 1 2 3, Ty.f64), (Instr.tanF128 1 2 3, Ty.f128)] := by decide

theorem test_hyp_signed_law : 1 ≤ 1 ∧ 1 ≤ 3 ∧
    (addSLimbs (0x7FFFFFFFFFFFFFFF : BitVec (64 * 1)) 1, (9223372036854775808 : Int)) =
      (addS (0x7FFFFFFFFFFFFFFF : BitVec (64 * 1)) 1,
        (0x7FFFFFFFFFFFFFFF : BitVec (64 * 1)).toInt + (1 : BitVec (64 * 1)).toInt) := by decide +kernel

theorem test_hyp_negN : (negN (0x8000000000000000 : BitVec (64 * 1))).2 = true ∧
    (negN (5 : BitVec (64 * 1))).2 = false := by decide +kernel

theorem test_hyp_shifts : 1 ≤ 64 ∧ 0 ≤ 64 ∧ 64 ≤ 64 ∧ sar (0x8000000000000000 : BitVec 64) 64 = BitVec.ofInt 64 (-1) := by
  decide +kernel

theorem test_hyp_division : (1 : BitVec 257) ≠ 0 ∧ BitVec.allOnes 257 ≠ 0 := by decide +kernel

theorem test_hyp_isqrt : 0 < 2 ^ 208 ∧ 2 ^ 208 - 1 < 2 ^ 208 ∧ isqrt (2 ^ 208 - 1) = 2 ^ 104 - 1 := by decide +kernel

theorem test_hyp_written : Literal.pattern [] .f64 (.raw Ty.f64.min) = some 0x8000000000000000 ∧
    Literal.pattern [] .uf64 (.raw (-1)) = none ∧
    Literal.pattern [] .uf64 (.numeral 15 1) = some 150000000 ∧
    Line.request [] ⟨none, .sqrt, .uf64, [.raw 4]⟩ = some { cmd := 0x0008, a := 4, b := 0, c := 0 } ∧
    Line.request [("x", 9)] ⟨none, .fmd, .f128, [.raw 1, .bound "x", .raw 3]⟩ =
      some { cmd := 0x0065, a := 1, b := 9, c := 3 } ∧
    Op.arity .sqrt ≤ 1 ∧ Op.arity .add ≤ 2 := by decide +kernel

theorem test_hyp_not_written : Line.request [] ⟨none, .sqrt, .uf64, [.raw 4, .raw 5]⟩ = none ∧
    Line.request [] ⟨none, .sqrt, .uf64, [.raw (-1)]⟩ = none ∧
    (⟨some "n", .sqrt, .uf64, [.raw 4]⟩ : Line).bind = some "n" ∧ "m" ≠ "n" := by decide +kernel

end Sys2Proof.Tests
end

section
/-! PROOFS. The transaction slot (10_state.md R27 to R30): what each of `Accept`, `Deliver` and `Reset` does, that each
keeps the invariant `Consistent`, and the statements about single steps assembled from that. -/
namespace Sys2Proof.Machine

/-! ### Every accepted request is answered with `EXEC` -/

/-- Every arm of the dispatch accepts the response its operation and type prescribe (30_encoding.md R64, R70). -/
theorem exec_eq_accept_answer (i : Instr) (s : State) :
    exec i s = accept s (answer Config.unit i.op i.ty i.portA i.portB i.portC) := by
  cases i <;> rfl

theorem execRequest_ok {cfg : Cfg} {q : Request} {i : Instr} (h : decodeRequest q = .ok i) :
    execRequest cfg q = answer cfg i.op i.ty i.portA i.portB i.portC := by simp [execRequest, h]

/-- Taking a request, defined or illegal, is `Accept` with `EXEC` of it (10_state.md R28). -/
theorem takeRequest_eq_accept (q : Request) (s : State) :
    takeRequest q s = accept (s.recordRequest q) (execRequest Config.unit q) := by
  cases h : decodeRequest q with
  | ok i => rw [takeRequest_ok h, exec_eq_accept_answer, execRequest_ok h]
  | error e =>
    rw [takeRequest_error h, execRequest_error h]
    rfl

/-- The word the decoder's table reads is the request `withFetchWord` presents. -/
theorem decodeTableWord_eq_some {nbits w : Nat} {i : Instr} :
    decodeTableWord nbits w = some i ↔
      decodeRequest (Request.ofBits (BitVec.ofNat 400 (w % 2 ^ nbits))) = .ok i := by
  unfold decodeTableWord decodeBits
  cases decodeRequest (Request.ofBits (BitVec.ofNat 400 (w % 2 ^ nbits))) <;> simp

/-! ### One equation of `step` for each case of `step_cases` -/

section StepEquations
variable {s : State}

theorem step_of_rst (hrst : s.inputs.rst = true) : step s = .next (resetUnit s.sampled) := by
  simpa [hrst] using step_cases s

theorem step_of_request (hrst : s.inputs.rst = false) (hslot : s.slot = .idle) (hreq : s.inputs.reqValid = true) :
    step s = takeRequest s.inputs.req s.sampled := by
  simpa [hrst, hslot, hreq] using step_cases s

theorem step_of_no_request (hrst : s.inputs.rst = false) (hslot : s.slot = .idle)
    (hreq : s.inputs.reqValid = false) : step s = .next s.sampled := by
  simpa [hrst, hslot, hreq] using step_cases s

theorem step_of_ready {st : Status} {r : Port} (hrst : s.inputs.rst = false) (hslot : s.slot = .pending st r)
    (hready : s.inputs.rspReady = true) : step s = .next (deliver s.sampled) := by
  simpa [hrst, hslot, hready] using step_cases s

theorem step_of_not_ready {st : Status} {r : Port} (hrst : s.inputs.rst = false) (hslot : s.slot = .pending st r)
    (hready : s.inputs.rspReady = false) : step s = .next s.sampled := by
  simpa [hrst, hslot, hready] using step_cases s

/-- An idle unit that is offered a request holds `EXEC` of it at the next moment. -/
theorem step_accepts (hrst : s.inputs.rst = false) (hslot : s.slot = .idle) (hreq : s.inputs.reqValid = true) :
    step s = .next { s.sampled.recordRequest s.inputs.req with
      slot := .pending (execRequest Config.unit s.inputs.req).status (execRequest Config.unit s.inputs.req).r } := by
  rw [step_of_request hrst hslot hreq, takeRequest_eq_accept, accept_idle _ (by simp [hslot])]

end StepEquations

/-! ### Each operation on the slot keeps the invariant -/

theorem owedResponses_idle {s : State} (h : s.slot = .idle) : owedResponses s = [] := by simp [owedResponses, h]

theorem owedResponses_pending {s : State} {st : Status} {r : Port} (h : s.slot = .pending st r) :
    owedResponses s = [{ status := st, r := r }] := by simp [owedResponses, h]

/-- With nothing owed, every recorded request has its response delivered. -/
theorem consistent_idle_iff {s : State} (h : s.slot = .idle) :
    Consistent s ↔ s.requests.map (execRequest Config.unit) = s.responses := by
  simp [Consistent, owedResponses_idle h]

theorem consistent_pending_iff {s : State} {st : Status} {r : Port} (h : s.slot = .pending st r) :
    Consistent s ↔ s.requests.map (execRequest Config.unit) = s.responses ++ [{ status := st, r := r }] := by
  simp [Consistent, owedResponses_pending h]

theorem Consistent.reset : Consistent State.reset := (consistent_idle_iff State.reset_slot).2 rfl

/-- Sampling the ports touches neither the slot nor the records. -/
theorem consistent_sampled_iff {s : State} : Consistent s.sampled ↔ Consistent s := Iff.rfl

/-- `Reset` keeps just the requests that were answered: what was delivered comes before what is owed. -/
theorem Consistent.resetUnit {s : State} (hs : Consistent s) : Consistent (resetUnit s) := by
  have hall : s.requests.map (execRequest Config.unit) = s.responses ++ owedResponses s := hs
  rw [consistent_idle_iff (resetUnit_slot s), resetUnit_requests, resetUnit_responses, List.map_take, hall,
    List.take_left]

/-- `Deliver` moves the owed response to the delivered ones. -/
theorem Consistent.deliver {s : State} (hs : Consistent s) : Consistent (deliver s) := by
  cases hslot : s.slot with
  | idle => rwa [deliver_idle s hslot]
  | pending st r =>
    rw [deliver_pending s st r hslot]
    exact (consistent_idle_iff rfl).2 ((consistent_pending_iff hslot).1 hs)

/-- `Accept` adds a request to the record and owes `EXEC` of it. -/
theorem Consistent.accept {s t : State} {q : Request} (hs : Consistent s) (hslot : s.slot = .idle)
    (h : accept (s.recordRequest q) (execRequest Config.unit q) = .next t) : Consistent t := by
  obtain ⟨-, rfl⟩ | ⟨hbusy, -⟩ := accept_cases h
  · have hanswered := (consistent_idle_iff hslot).1 hs
    exact (consistent_pending_iff rfl).2 (by simp [hanswered])
  · exact absurd hslot hbusy

/-- Settles O16, by the five kinds of step: each is an operation on the slot that keeps `Consistent`. -/
theorem stepKeepsResponsesConsistent : Obligations.StepKeepsResponsesConsistent := by
  intro s t hs hstep
  have hsampled : Consistent s.sampled := consistent_sampled_iff.2 hs
  obtain ⟨-, hreset⟩ | ⟨-, -, -, hdeliver⟩ | ⟨-, -, -, hhold⟩ | ⟨-, hslot, -, htake⟩ | ⟨-, -, -, hquiet⟩ :=
    step_cases s
  · obtain rfl : resetUnit s.sampled = t := by simpa [hreset] using hstep
    exact hsampled.resetUnit
  · obtain rfl : deliver s.sampled = t := by simpa [hdeliver] using hstep
    exact hsampled.deliver
  · obtain rfl : s.sampled = t := by simpa [hhold] using hstep
    exact hsampled
  · rw [htake, takeRequest_eq_accept] at hstep
    exact hsampled.accept hslot hstep
  · obtain rfl : s.sampled = t := by simpa [hquiet] using hstep
    exact hsampled

/-! ### The other statements about single steps -/

/-- Settles O19: both units hold `EXEC` of the one request, which is a function of the request alone. -/
theorem responseIndependentOfHistory : Obligations.ResponseIndependentOfHistory := by
  intro s s' hslot hslot' hrst hrst' hreq hreq' hsame
  exact ⟨_, _, step_accepts hrst hslot hreq, step_accepts hrst' hslot' hreq', by rw [hsame], by simp⟩

/-- An idle unit that is offered a request that decodes runs its instruction. -/
theorem step_of_decodes {s : State} {i : Instr} (hslot : s.slot = .idle) (hrst : s.inputs.rst = false)
    (hreq : s.inputs.reqValid = true) (hdec : decodeRequest s.inputs.req = .ok i) :
    step s = exec i (s.sampled.recordRequest s.inputs.req) := by
  rw [step_of_request hrst hslot hreq, takeRequest_ok hdec]

/-- Presenting a request and sampling it leaves the rest of what the host drives as it was. -/
theorem sampled_presentRequest (s : State) (q : Request) :
    (presentRequest s q).sampled = { s with samples := s.samples + 1 } := rfl

/-- An idle unit that is presented a request that decodes runs its instruction at the next step. -/
theorem step_presentRequest {s : State} {q : Request} {i : Instr} (hslot : s.slot = .idle)
    (hdec : decodeRequest q = .ok i) :
    step (presentRequest s q) = exec i { s with requests := s.requests ++ [q], samples := s.samples + 1 } := by
  rw [step_of_decodes (s := presentRequest s q) hslot rfl rfl hdec, sampled_presentRequest]
  rfl

/-- Settles O4: the second part is the first for the request that `withFetchWord` presents. -/
theorem stepRunsTheDecodedInstruction : Obligations.StepRunsTheDecodedInstruction := by
  constructor
  · intro s i hslot hrst hreq hdec
    exact step_of_decodes hslot hrst hreq hdec
  · intro s nbits w i hslot hword
    rw [State.withFetchWord, freeSlot_idle s hslot]
    exact step_presentRequest hslot (decodeTableWord_eq_some.1 hword)

/-- Settles O9, by the branches of `step`: request offered, response taken, `rst` 1, and neither. -/
theorem acceptDeliverResetAndNothingElse : Obligations.AcceptDeliverResetAndNothingElse := by
  refine ⟨?accept, ?deliver, ?reset, ?quiet⟩
  case accept =>
    intro s hrst hslot hreq
    exact step_accepts hrst hslot hreq
  case deliver =>
    intro s st r hrst hslot hready
    rw [step_of_ready hrst hslot hready, deliver_pending s.sampled st r hslot]
    rfl
  case reset =>
    intro s hrst
    exact ⟨_, step_of_rst hrst, by simp⟩
  case quiet =>
    intro s hrst hnoRequest hnotTaken
    change step s = .next s.sampled
    cases hslot : s.slot with
    | idle => exact step_of_no_request hrst hslot (hnoRequest hslot)
    | pending st r => exact step_of_not_ready hrst hslot (hnotTaken (by simp [hslot]))

/-- Settles O17: `rsp_valid` needs a pending slot, and after reset it is idle. -/
theorem resetStateIsIdleAndConsistent : Obligations.ResetStateIsIdleAndConsistent := by
  refine ⟨State.reset_slot, ?_, Consistent.reset, fun p => ?_⟩
  · simp [State.quiescent]
  · simp [rspValid]

end Sys2Proof.Machine
end

section
/-! PROOFS. Encoding and decoding (30_encoding.md R60, R65 to R71): the fields of the 400 bits and of the command word,
the decoder and the encoder as inverses of each other, and which command words are illegal. -/
namespace Sys2Proof

/-! ### The fields of a command word -/

/-- A code that names an operation is that operation's code (30_encoding.md R66). -/
theorem Op.code_of_ofCode {x : BitVec 5} {op : Op} (h : Op.ofCode x = some op) : op.code = x := by
  have hcodes : ∀ x : BitVec 5, ∀ op ∈ Op.ofCode x, op.code = x := by decide
  exact hcodes x op h

/-- Every 2-bit code is the code of the type it names (30_encoding.md R67). -/
theorem Ty.code_ofCode (x : BitVec 2) : (Ty.ofCode x).code = x := by
  have hcodes : ∀ x : BitVec 2, (Ty.ofCode x).code = x := by decide
  exact hcodes x

/-- A word with a clear `ZERO` field is `(T << 5) | OP` of its other two fields (30_encoding.md R65, R70). -/
theorem fields_of_zeroField_eq_zero {w : CommandWord} (h : zeroField w = 0) :
    ((typeField w).setWidth 16 <<< 5) ||| (opField w).setWidth 16 = w := by
  have hhigh : ∀ j < 9, w.getLsbD (7 + j) = false := fun j hj => by
    simpa [zeroField, hj] using congrArg (·.getLsbD j) h
  refine BitVec.eq_of_getLsbD_eq fun k hk => ?_
  obtain hop | ⟨hge, hty⟩ | hzero : k < 5 ∨ (5 ≤ k ∧ k < 7) ∨ 7 ≤ k := by omega
  · simp [typeField, opField, hop, hk]
  · have hsub : k - 5 < 2 := by omega
    simp [typeField, opField, hk, hsub, hge, Nat.not_lt.mpr hge]
  · have hbit := hhigh (k - 7) (by omega)
    rw [Nat.add_sub_cancel' hzero] at hbit
    have hnotOp : ¬ k < 5 := by omega
    have hnotTy : ¬ k - 5 < 2 := by omega
    simp [typeField, opField, hbit, hnotOp, hnotTy]

theorem decodeCommand_of_zeroField {w : CommandWord} (h : zeroField w ≠ 0) :
    decodeCommand w = .error .zeroField := if_neg h

theorem decodeCommand_of_reserved {w : CommandWord} (hz : zeroField w = 0) (hop : Op.ofCode (opField w) = none) :
    decodeCommand w = .error .reservedOp := by simp [decodeCommand, hz, hop]

theorem decodeCommand_of_op {w : CommandWord} {op : Op} (hz : zeroField w = 0)
    (hop : Op.ofCode (opField w) = some op) : decodeCommand w = .ok (op, Ty.ofCode (typeField w)) := by
  simp [decodeCommand, hz, hop]

/-- Decoding a command word loses none of its bits (30_encoding.md R65, R70). -/
theorem commandWord_of_decodeCommand {w : CommandWord} {op : Op} {t : Ty} (h : decodeCommand w = .ok (op, t)) :
    commandWord op t = w := by
  by_cases hz : zeroField w = 0
  · cases hop : Op.ofCode (opField w) with
    | none => simp [decodeCommand_of_reserved hz hop] at h
    | some op' =>
      obtain ⟨rfl, rfl⟩ : op' = op ∧ Ty.ofCode (typeField w) = t := by simpa [decodeCommand_of_op hz hop] using h
      rw [commandWord, Ty.code_ofCode, Op.code_of_ofCode hop, fields_of_zeroField_eq_zero hz]
  · simp [decodeCommand_of_zeroField hz] at h

/-- The command words of R70 are exactly those of the admitted pairs of R68. -/
theorem mem_definedCommands_iff {w : CommandWord} :
    w ∈ definedCommands ↔ ∃ op t, decodeCommand w = .ok (op, t) ∧ op.admits t = true := by
  constructor
  · have hall : (definedCommands.all fun w => (decodeCommand w).toOption.any fun p => p.1.admits p.2) = true := by
      decide
    intro hw
    have hany := List.all_eq_true.1 hall w hw
    cases hdec : decodeCommand w with
    | error e => simp [hdec, Except.toOption] at hany
    | ok p => exact ⟨p.1, p.2, rfl, by simpa [hdec, Except.toOption] using hany⟩
  · rintro ⟨op, t, hdec, hadm⟩
    have hdefined := commandWord_defined op t 0 0 0 hadm
    rw [commandWord_of_decodeCommand hdec] at hdefined
    simpa [Request.wellFormed] using hdefined

/-! ### The decoder and the encoder -/

/-- `assemble` refuses a pair exactly when the operation does not admit the type (30_encoding.md R68). -/
theorem assemble_eq_error_iff {op : Op} {t : Ty} {a b c : Port} :
    (∃ e, assemble op t a b c = .error e) ↔ op.admits t = false := by
  cases op <;> cases t <;> simp [assemble, Op.admits, Ty.signed]

theorem assemble_eq_ok_iff {op : Op} {t : Ty} {a b c : Port} :
    (∃ i, assemble op t a b c = .ok i) ↔ op.admits t = true := by
  cases op <;> cases t <;> simp [assemble, Op.admits, Ty.signed]

/-- An instruction is assembled from its operation, its type and its ports, and from nothing else. -/
theorem encode_of_assemble {op : Op} {t : Ty} {a b c : Port} {i : Instr} (h : assemble op t a b c = .ok i) :
    encode i = { cmd := commandWord op t, a := a, b := b, c := c } := by
  revert h
  cases op <;> cases t <;> rintro ⟨⟩ <;> rfl

theorem assemble_fields (i : Instr) : assemble i.op i.ty i.portA i.portB i.portC = .ok i := by
  cases i <;> rfl

/-- Decoding the request of an instruction gives the instruction back (30_encoding.md R70). -/
theorem decodeRequest_encode (i : Instr) : decodeRequest (encode i) = .ok i := by
  rw [encode, decodeRequest_commandWord, assemble_fields]

/-- What a request decodes to encodes to that request: no operand bit is dropped (30_encoding.md R60). -/
theorem encode_of_decodeRequest {q : Request} {i : Instr} (h : decodeRequest q = .ok i) : encode i = q := by
  cases hcmd : decodeCommand q.cmd with
  | error e => simp [decodeRequest, hcmd] at h
  | ok p =>
    rw [encode_of_assemble (by simpa [decodeRequest, hcmd] using h), commandWord_of_decodeCommand hcmd]

theorem decodeRequest_eq_ok_iff {q : Request} {i : Instr} : decodeRequest q = .ok i ↔ encode i = q :=
  ⟨encode_of_decodeRequest, fun h => h ▸ decodeRequest_encode i⟩

/-! ### The 400 bits -/

/-- The low part of an appended pair counts once, the high part `2^n` times. -/
theorem toNat_append_eq_add {m n : Nat} (x : BitVec m) (y : BitVec n) :
    (x ++ y).toNat = x.toNat * 2 ^ n + y.toNat := by
  rw [BitVec.toNat_append, ← Nat.shiftLeft_add_eq_or_of_lt y.isLt, Nat.shiftLeft_eq]

/-- The number of a request: its fields from the lowest bit up (30_encoding.md R60). -/
theorem Request.toNat_toBits (q : Request) : q.toBits.toNat =
    q.cmd.toNat + 2 ^ 16 * q.a.toNat + 2 ^ 144 * q.b.toNat + 2 ^ 272 * q.c.toNat := by
  simp only [Request.toBits, toNat_append_eq_add]
  omega

/-- A field is read off the number of the word. -/
theorem extractLsb'_eq_of_toNat {w : RequestBits} {start n : Nat} {x : BitVec n}
    (h : w.toNat / 2 ^ start % 2 ^ n = x.toNat) : w.extractLsb' start n = x :=
  BitVec.eq_of_toNat_eq (by rw [BitVec.extractLsb'_toNat, Nat.shiftRight_eq_div_pow, h])

@[simp] theorem Request.ofBits_toBits (q : Request) : Request.ofBits q.toBits = q := by
  have hnumber := Request.toNat_toBits q
  have hcmdLt := q.cmd.isLt
  have haLt := q.a.isLt
  have hbLt := q.b.isLt
  have hcLt := q.c.isLt
  have hcmd : q.toBits.extractLsb' 0 16 = q.cmd := extractLsb'_eq_of_toNat (by omega)
  have ha : q.toBits.extractLsb' 16 128 = q.a := extractLsb'_eq_of_toNat (by omega)
  have hb : q.toBits.extractLsb' 144 128 = q.b := extractLsb'_eq_of_toNat (by omega)
  have hc : q.toBits.extractLsb' 272 128 = q.c := extractLsb'_eq_of_toNat (by omega)
  rw [Request.ofBits, hcmd, ha, hb, hc]

@[simp] theorem Request.toBits_ofBits (w : RequestBits) : (Request.ofBits w).toBits = w := by
  have hcb : w.extractLsb' 272 128 ++ w.extractLsb' 144 128 = w.extractLsb' 144 256 :=
    BitVec.extractLsb'_append_extractLsb'_eq_extractLsb' rfl
  have hcba : w.extractLsb' 144 256 ++ w.extractLsb' 16 128 = w.extractLsb' 16 384 :=
    BitVec.extractLsb'_append_extractLsb'_eq_extractLsb' rfl
  have hall : w.extractLsb' 16 384 ++ w.extractLsb' 0 16 = w.extractLsb' 0 400 :=
    BitVec.extractLsb'_append_extractLsb'_eq_extractLsb' rfl
  rw [Request.toBits, Request.ofBits, hcb, hcba, hall, BitVec.extractLsb'_eq_self]

/-- The flattening is a bijection: a word decodes to an instruction exactly when it is the instruction's encoding. -/
theorem decodeBits_eq_ok_iff {w : RequestBits} {i : Instr} : decodeBits w = .ok i ↔ encodeBits i = w := by
  rw [decodeBits, decodeRequest_eq_ok_iff, encodeBits]
  constructor
  · intro h
    rw [h, Request.toBits_ofBits]
  · intro h
    rw [← h, Request.ofBits_toBits]

/-- Settles O1: both directions are `decodeBits_eq_ok_iff`, and the fields are those of `Request.ofBits`. -/
theorem encodeThenDecodeAndBack : Obligations.EncodeThenDecodeAndBack := by
  refine ⟨fun i _ => decodeBits_eq_ok_iff.2 rfl, fun w i => decodeBits_eq_ok_iff.1, ?fields, Request.toNat_toBits⟩
  case fields =>
    intro w i h
    have hfields : encode i = Request.ofBits w := encode_of_decodeRequest h
    simpa [encode, Request.ofBits, eq_comm] using hfields

/-! ### Illegal command words -/

/-- A request is undecodable by its command word or because `assemble` refuses the pair (30_encoding.md R71). -/
theorem decodeRequest_eq_error_iff {q : Request} : (∃ e, decodeRequest q = .error e) ↔
    (zeroField q.cmd ≠ 0 ∨ Op.ofCode (opField q.cmd) = none ∨
      ∃ op, Op.ofCode (opField q.cmd) = some op ∧ op.admits (Ty.ofCode (typeField q.cmd)) = false) := by
  by_cases hz : zeroField q.cmd = 0
  · cases hop : Op.ofCode (opField q.cmd) with
    | none => simp [decodeRequest, decodeCommand_of_reserved hz hop]
    | some op => simp [decodeRequest, decodeCommand_of_op hz hop, assemble_eq_error_iff, hz]
  · exact iff_of_true ⟨.zeroField, by rw [decodeRequest, decodeCommand_of_zeroField hz]⟩ (.inl hz)

/-- A request decodes exactly when its command word is one of the 46 (30_encoding.md R70, R71). -/
theorem decodeRequest_isOk_iff {q : Request} : (∃ i, decodeRequest q = .ok i) ↔ q.cmd ∈ definedCommands := by
  rw [mem_definedCommands_iff]
  cases hcmd : decodeCommand q.cmd with
  | error e => simp [decodeRequest, hcmd]
  | ok p =>
    obtain ⟨op, t⟩ := p
    simp [decodeRequest, hcmd, assemble_eq_ok_iff]

end Sys2Proof

namespace Sys2Proof.Machine

/-- Settles O2: the three conditions of R71 are those under which the decoder refuses, and the two steps are
`Accept` of the ILLEGAL response and its `Deliver`. -/
theorem illegalCommandIsAnsweredIllegal : Obligations.IllegalCommandIsAnsweredIllegal := by
  refine ⟨fun q => decodeRequest_eq_error_iff, fun q => decodeRequest_isOk_iff, by decide, rfl, rfl, ?accept, ?next⟩
  case accept =>
    intro s e hslot hrst hreq hdec
    rw [step_accepts hrst hslot hreq, execRequest_error hdec]
    rfl
  case next =>
    intro s r hslot hrst hready
    refine ⟨_, step_of_ready hrst hslot hready, fun p hp => ?_⟩
    simp [deliver_pending s.sampled .illegal r hslot, reqReady, hp]

/-- Settles O3: the words are written out, and the decoder is run on each. -/
theorem wordsOfTheTableDecode : Obligations.WordsOfTheTableDecode := by
  unfold Obligations.WordsOfTheTableDecode
  decide +kernel

end Sys2Proof.Machine
end

section
/-! PROOFS. Operands and results (30_encoding.md R61 to R64, R69): the value of an operand port, the pattern of a
result, that a response depends on the used operands only, and what the output ports carry. -/
namespace Sys2Proof

/-! ### The range of a type -/

/-- The range of an unsigned type is that of the remainders modulo `2^W(T)` (00_scope.md R6). -/
theorem Ty.range_of_unsigned {t : Ty} (h : t.signed = false) :
    t.min = 0 ∧ t.max = ((2 ^ t.width : Nat) : Int) - 1 := by
  cases t <;> simp [Ty.signed, Ty.min, Ty.max, Ty.width] at h ⊢

/-- The range of a signed type is that of the balanced remainders modulo `2^W(T)` (00_scope.md R6). -/
theorem Ty.range_of_signed {t : Ty} (h : t.signed = true) :
    t.min = -(((2 ^ t.width : Nat) : Int) / 2) ∧ t.max = (((2 ^ t.width : Nat) : Int) - 1) / 2 := by
  cases t <;> simp [Ty.signed, Ty.min, Ty.max, Ty.width] at h ⊢

/-- A type holds `2^W(T)` raws in either case (00_scope.md R6). -/
theorem Ty.max_sub_min (t : Ty) : t.max - t.min + 1 = ((2 ^ t.width : Nat) : Int) := by
  cases t <;> rfl

theorem Ty.two_pow_width_pos (t : Ty) : 0 < ((2 ^ t.width : Nat) : Int) :=
  Int.natCast_pos.2 (Nat.two_pow_pos t.width)

theorem Ty.width_le (t : Ty) : t.width ≤ 128 := by cases t <;> decide

theorem Ty.holds_iff {t : Ty} {v : Int} : t.holds v = true ↔ t.min ≤ v ∧ v ≤ t.max := by simp [Ty.holds]

end Sys2Proof

namespace Sys2Proof.Machine

/-! ### The value of an operand port -/

theorem operand_of_unsigned {t : Ty} (h : t.signed = false) (p : Port) :
    operand t p = (p.toNat : Int) % ((2 ^ t.width : Nat) : Int) := by
  simp [operand, h]

theorem operand_of_signed {t : Ty} (h : t.signed = true) (p : Port) :
    operand t p = (p.toNat : Int).bmod (2 ^ t.width) := by
  simp [operand, h, BitVec.toInt_setWidth]

/-- Unsigned and two's-complement values are both congruent to the pattern (30_encoding.md R62). -/
theorem operand_emod (t : Ty) (p : Port) :
    operand t p % ((2 ^ t.width : Nat) : Int) = (p.toNat : Int) % ((2 ^ t.width : Nat) : Int) := by
  cases h : t.signed with
  | false => rw [operand_of_unsigned h, Int.emod_emod]
  | true => rw [operand_of_signed h, Int.bmod_emod]

theorem operand_bounds (t : Ty) (p : Port) : t.min ≤ operand t p ∧ operand t p ≤ t.max := by
  cases h : t.signed with
  | false =>
    obtain ⟨hmin, hmax⟩ := Ty.range_of_unsigned h
    have hlt := Int.emod_lt_of_pos (p.toNat : Int) t.two_pow_width_pos
    rw [operand_of_unsigned h, hmin, hmax]
    exact ⟨Int.emod_nonneg _ t.two_pow_width_pos.ne', Int.le_sub_one_of_lt hlt⟩
  | true =>
    obtain ⟨hmin, hmax⟩ := Ty.range_of_signed h
    rw [operand_of_signed h, hmin, hmax]
    exact ⟨Int.le_bmod (Nat.two_pow_pos t.width), Int.bmod_le (Nat.two_pow_pos t.width)⟩

/-- Settles O5, by the bounds of `%` and `bmod` and their congruences. -/
theorem operandIsTheValueOfTheLowBits : Obligations.OperandIsTheValueOfTheLowBits := by
  intro t p
  obtain ⟨hmin, hmax⟩ := operand_bounds t p
  exact ⟨hmin, hmax, operand_emod t p⟩

/-! ### The pattern of a result -/

/-- Raws of a type that agree modulo `2^W(T)` are equal: its range is no longer than that. -/
theorem eq_of_emod_eq {t : Ty} {v w : Int} (hv : t.min ≤ v ∧ v ≤ t.max) (hw : t.min ≤ w ∧ w ≤ t.max)
    (h : v % ((2 ^ t.width : Nat) : Int) = w % ((2 ^ t.width : Nat) : Int)) : v = w := by
  have hlen := t.max_sub_min
  have hdvd : ((2 ^ t.width : Nat) : Int) ∣ v - w := Int.ModEq.dvd (Int.ModEq.symm h)
  have habs : |v - w| < ((2 ^ t.width : Nat) : Int) := abs_lt.2 ⟨by omega, by omega⟩
  exact Int.sub_eq_zero.1 (Int.eq_zero_of_abs_lt_dvd hdvd habs)

/-- A result pattern is the integer modulo `2^W(T)`, zero-extended (30_encoding.md R63). -/
theorem resultPattern_toNat (t : Ty) (q : Int) :
    ((resultPattern t q).toNat : Int) = q % ((2 ^ t.width : Nat) : Int) := by
  rw [resultPattern, BitVec.toNat_setWidth_of_le t.width_le, BitVec.toNat_ofInt, Int.toNat_of_nonneg]
  exact Int.emod_nonneg _ t.two_pow_width_pos.ne'

theorem resultPattern_lt (t : Ty) (q : Int) : (resultPattern t q).toNat < 2 ^ t.width := by
  rw [resultPattern, BitVec.toNat_setWidth_of_le t.width_le]
  exact BitVec.isLt _

/-- A result in range reads back as the same integer (30_encoding.md R63). -/
theorem operand_resultPattern {t : Ty} {q : Int} (hq : t.min ≤ q ∧ q ≤ t.max) :
    operand t (resultPattern t q) = q := by
  refine eq_of_emod_eq (operand_bounds t _) hq ?_
  rw [operand_emod, resultPattern_toNat, Int.emod_emod]

/-- Settles O6: the pattern and its operand agree modulo `2^W(T)`, and both integers are in range. -/
theorem resultIsZeroExtendedAndReadsBack : Obligations.ResultIsZeroExtendedAndReadsBack :=
  fun t q hmin hmax => ⟨rfl, resultPattern_lt t q, operand_resultPattern ⟨hmin, hmax⟩⟩

/-! ### Which operands a response depends on -/

/-- The rule of an operation looks at the value of `a`, and at those of `b` and `c` where it uses them
(30_encoding.md R66, R69). -/
theorem answer_congr (cfg : Cfg) {op : Op} {t : Ty} {a b c a' b' c' : Port} (ha : operand t a = operand t a')
    (hb : 2 ≤ op.arity → operand t b = operand t b') (hc : 3 ≤ op.arity → operand t c = operand t c') :
    answer cfg op t a b c = answer cfg op t a' b' c' := by
  cases op with
  | add | sub | mul | div | mod | pow =>
    have hb' := hb (by decide)
    simp only [answer, respondAdd, respondSub, respondMul, respondDiv, respondMod, respondPow, ha, hb']
  | fmd =>
    have hb' := hb (by decide)
    have hc' := hc (by decide)
    simp only [answer, respondFmd, ha, hb', hc']
  | sqrt | ln | exp | sin | cos | tan | asin | acos | atan =>
    simp only [answer, respondSqrt, respondLn, respondExp, respondSin, respondCos, respondTan, respondAsin,
      respondAcos, respondAtan, ha]

/-- Settles O7: both instructions accept the response of one operation and type, by `answer_congr`. -/
theorem unusedOperandBitsDoNotMatter : Obligations.UnusedOperandBitsDoNotMatter := by
  intro i j s hop hty hsame
  obtain ⟨ha, hb, hc⟩ := hsame
  rw [exec_eq_accept_answer, exec_eq_accept_answer, ← hop, ← hty, answer_congr Config.unit ha hb hc]

/-! ### Every instruction answers with `EXEC` -/

/-- An instruction accepts `EXEC` of the request that encodes it (30_encoding.md R64). -/
theorem exec_eq_accept_execRequest (i : Instr) (s : State) :
    exec i s = accept s (execRequest Config.unit (encode i)) := by
  rw [exec_eq_accept_answer, execRequest_ok (decodeRequest_encode i)]

/-- Settles O15, by the two cases of the slot. -/
theorem everyInstructionAnswersWithExec : Obligations.EveryInstructionAnswersWithExec := by
  refine fun i s => ⟨fun hslot => ?idle, fun hslot => ?pending⟩
  case idle => rw [Answers, exec_eq_accept_execRequest, accept_idle s hslot]
  case pending =>
    rw [exec_eq_accept_execRequest]
    cases hs : s.slot with
    | idle => exact absurd hs hslot
    | pending st r => exact accept_pending s st r hs _

/-! ### The output ports -/

theorem reqReady_eq_true_iff {s : State} {p : PortInputs} :
    reqReady s p = true ↔ s.slot = .idle ∧ p.rst = false := by simp [reqReady]

theorem rspValid_eq_true_iff {s : State} {p : PortInputs} :
    rspValid s p = true ↔ s.slot ≠ .idle ∧ p.rst = false := by simp [rspValid]

section PendingPorts
variable {s : State} {p : PortInputs} {st : Status} {r : Port}

theorem rspStatus_of_pending (hslot : s.slot = .pending st r) (hrst : p.rst = false) : rspStatus s p = st.code := by
  simp [rspStatus, hslot, hrst]

theorem rspR_of_pending (hslot : s.slot = .pending st r) (hrst : p.rst = false) : rspR s p = r := by
  simp [rspR, hslot, hrst]

end PendingPorts

/-- Settles O13, port by port. -/
theorem outputPortsFollowTheSlot : Obligations.OutputPortsFollowTheSlot :=
  fun _ _ => ⟨reqReady_eq_true_iff, rspValid_eq_true_iff, fun _ _ hslot hrst =>
    ⟨rspStatus_of_pending hslot hrst, rspR_of_pending hslot hrst⟩⟩

end Sys2Proof.Machine
end

section
/-! PROOFS. The written form of requests (30_encoding.md R74, R75): which literals have a pattern and which operand it
drives, when a line is a request and what its ports carry, and what a name is bound to. -/
namespace Sys2Proof.Machine

/-! ### The pattern of a literal -/

theorem rawPattern_eq_some_iff {t : Ty} {n : Int} {p : Port} :
    rawPattern t n = some p ↔ (t.min ≤ n ∧ n ≤ t.max) ∧ resultPattern t n = p := by
  simp [rawPattern, Ty.holds_iff]

theorem rawPattern_eq_none_iff {t : Ty} {n : Int} : rawPattern t n = none ↔ n < t.min ∨ t.max < n := by
  have hnot : rawPattern t n = none ↔ ¬ (t.min ≤ n ∧ n ≤ t.max) := by simp [rawPattern, Ty.holds_iff]
  rw [hnot]
  omega

/-- The operand a raw drives is that raw (30_encoding.md R74). -/
theorem operand_of_rawPattern {t : Ty} {n : Int} {p : Port} (h : rawPattern t n = some p) : operand t p = n := by
  obtain ⟨hn, rfl⟩ := rawPattern_eq_some_iff.1 h
  exact operand_resultPattern hn

theorem rawPattern_max (t : Ty) : rawPattern t t.max = some (resultPattern t t.max) :=
  rawPattern_eq_some_iff.2 ⟨⟨Ty.min_le_max t, le_rfl⟩, rfl⟩

theorem rawPattern_min (t : Ty) : rawPattern t t.min = some (resultPattern t t.min) :=
  rawPattern_eq_some_iff.2 ⟨⟨le_rfl, Ty.min_le_max t⟩, rfl⟩

section Numeral
variable {names : List (String × Port)} {t : Ty} {d : Int} {k : Nat}

/-- A numeral whose scaled value is the integer `v` drives what the raw `v` drives (30_encoding.md R74). -/
theorem pattern_numeral_of_eq {v : Int} (h : v * 10 ^ k = d * t.scale) :
    Literal.pattern names t (.numeral d k) = rawPattern t v := by
  have hv : v * ((10 ^ k : Nat) : Int) = d * t.scale := by exact_mod_cast h
  have hpow : ((10 ^ k : Nat) : Int) ≠ 0 := by positivity
  rw [Literal.pattern, ← hv, Int.mul_emod_left, if_pos rfl, Int.mul_ediv_cancel v hpow]

/-- A numeral whose scaled value is no integer drives nothing (30_encoding.md R74). -/
theorem pattern_numeral_of_not_integer (h : ∀ v : Int, v * 10 ^ k ≠ d * t.scale) :
    Literal.pattern names t (.numeral d k) = none := by
  refine if_neg fun hdvd => ?_
  obtain ⟨v, hv⟩ := Int.dvd_of_emod_eq_zero hdvd
  refine h v ?_
  rw [hv, mul_comm]
  push_cast
  rfl

theorem operand_of_pattern_numeral {p : Port} (h : Literal.pattern names t (.numeral d k) = some p) :
    operand t p * 10 ^ k = d * t.scale := by
  by_cases hint : ∃ v : Int, v * 10 ^ k = d * t.scale
  · obtain ⟨v, hv⟩ := hint
    rw [pattern_numeral_of_eq hv] at h
    rw [operand_of_rawPattern h, hv]
  · simp [pattern_numeral_of_not_integer (not_exists.1 hint)] at h

theorem pattern_numeral_eq_none_iff : Literal.pattern names t (.numeral d k) = none ↔
    ∀ v : Int, v * 10 ^ k = d * t.scale → v < t.min ∨ t.max < v := by
  constructor
  · intro h v hv
    rwa [pattern_numeral_of_eq hv, rawPattern_eq_none_iff] at h
  · intro h
    by_cases hint : ∃ v : Int, v * 10 ^ k = d * t.scale
    · obtain ⟨v, hv⟩ := hint
      rw [pattern_numeral_of_eq hv, rawPattern_eq_none_iff]
      exact h v hv
    · exact pattern_numeral_of_not_integer (not_exists.1 hint)

end Numeral

/-! ### The request of a line -/

/-- `mapM` in `Option` gives the images of the elements, in order. -/
theorem mapM_eq_some_iff {α β : Type} {f : α → Option β} {xs : List α} {ys : List β} :
    xs.mapM f = some ys ↔ List.Forall₂ (fun x y => f x = some y) xs ys := by
  induction xs generalizing ys with
  | nil => simp [eq_comm]
  | cons x xs ih => simp [List.mapM_cons, Option.bind_eq_some_iff, List.forall₂_cons_left_iff, ih, @eq_comm _ ys]

/-- `mapM` in `Option` fails exactly when some element has no image. -/
theorem mapM_eq_none_iff {α β : Type} {f : α → Option β} {xs : List α} :
    xs.mapM f = none ↔ ∃ x ∈ xs, f x = none := by
  induction xs with
  | nil => simp
  | cons x xs ih =>
    cases hx : f x with
    | none => simp [List.mapM_cons, hx]
    | some y =>
      have htail : (x :: xs).mapM f = none ↔ xs.mapM f = none := by
        cases hxs : xs.mapM f <;> simp [List.mapM_cons, hx, hxs]
      rw [htail, ih, List.exists_mem_cons_iff]
      simp [hx]

/-- The image of the element at an index is the image list's element there. -/
theorem getD_of_mapM {α β : Type} {f : α → Option β} {xs : List α} {ys : List β} (h : xs.mapM f = some ys)
    {k : Nat} {x : α} (hx : xs[k]? = some x) (d : β) : f x = some (ys.getD k d) := by
  have hall := mapM_eq_some_iff.1 h
  obtain ⟨hk, rfl⟩ := List.getElem?_eq_some_iff.1 hx
  have hk' : k < ys.length := hall.length_eq ▸ hk
  rw [List.getD_eq_getElem _ _ hk']
  exact hall.get hk hk'

section Request
variable {names : List (String × Port)} {l : Line}

/-- A line is a request exactly when its operands are as many as its operation uses and each has a pattern
(30_encoding.md R74). -/
theorem Line.request_eq_some_iff {q : Request} : l.request names = some q ↔
    l.args.length = l.op.arity ∧ ∃ ps, l.args.mapM (Literal.pattern names l.ty) = some ps ∧
      q = { cmd := commandWord l.op l.ty, a := ps.getD 0 0, b := ps.getD 1 0, c := ps.getD 2 0 } := by
  unfold Line.request
  by_cases hlen : l.args.length = l.op.arity
  · cases hps : l.args.mapM (Literal.pattern names l.ty) <;> simp [hlen, eq_comm]
  · simp [hlen]

theorem Line.request_eq_none_iff : l.request names = none ↔
    l.args.length ≠ l.op.arity ∨ ∃ x ∈ l.args, Literal.pattern names l.ty x = none := by
  rw [← mapM_eq_none_iff]
  unfold Line.request
  by_cases hlen : l.args.length = l.op.arity
  · cases hps : l.args.mapM (Literal.pattern names l.ty) <;> simp [hlen]
  · simp [hlen]

end Request

/-! ### Names -/

/-- After the response a line's name stands for the result field, and other names as before (30_encoding.md R75). -/
theorem Line.lookup_bindResult {names : List (String × Port)} {l : Line} {n : String} (h : l.bind = some n)
    (x : Response) (m : String) :
    (l.bindResult names x).lookup m = if m = n then some x.r else names.lookup m := by
  rw [Line.bindResult, h, List.lookup_cons]
  by_cases hm : m = n
  · simp [hm]
  · simp [hm, beq_false_of_ne hm]

/-- Settles O60: the literals, the ports of a request, the lines that are none, and the names, each by its lemma. -/
theorem writtenRequestsDriveTheirOperands : Obligations.WrittenRequestsDriveTheirOperands := by
  refine ⟨?literals, ?ports, fun names l => Line.request_eq_none_iff, ?bound⟩
  case literals =>
    intro names t n
    refine ⟨fun p hp => ?_, rawPattern_eq_none_iff, rawPattern_max t, rawPattern_min t, fun x => rfl,
      fun k => ⟨fun p => operand_of_pattern_numeral, pattern_numeral_eq_none_iff⟩⟩
    have hraw : rawPattern t n = some p := hp
    exact ⟨(rawPattern_eq_some_iff.1 hraw).2.symm, operand_of_rawPattern hraw⟩
  case ports =>
    intro names l q hq
    obtain ⟨hlen, ps, hps, rfl⟩ := Line.request_eq_some_iff.1 hq
    have hcount : ps.length = l.op.arity := by rw [← (mapM_eq_some_iff.1 hps).length_eq, hlen]
    refine ⟨rfl, hlen, fun x hx => getD_of_mapM hps hx 0, fun x hx => getD_of_mapM hps hx 0,
      fun x hx => getD_of_mapM hps hx 0, fun harity => ?_, fun harity => ?_⟩
    · exact List.getD_eq_default _ _ (by omega)
    · exact List.getD_eq_default _ _ (by omega)
  case bound =>
    intro names l x n hbind
    refine ⟨?_, fun m hm => ?_⟩
    · rw [Line.lookup_bindResult hbind, if_pos rfl]
    · rw [Line.lookup_bindResult hbind, if_neg hm]

end Sys2Proof.Machine
end

section
/-! PROOFS. The wide-integer core (40_wide_integer.md R100 to R108): the value of a list of limbs, the one-limb
steps, and the carry and borrow chains built from them. -/
namespace Sys2Proof.Machine

/-! ### The value of limbs -/

/-- The base of a limb is `2^64`; later proofs use this spelling. -/
theorem natOfLimbs_cons (l : Limb) (ls : List Limb) : natOfLimbs (l :: ls) = l.toNat + 2 ^ 64 * natOfLimbs ls := rfl

theorem two_pow_limbs_succ (n : Nat) : 2 ^ (64 * (n + 1)) = 2 ^ 64 * 2 ^ (64 * n) := by
  rw [← pow_add, mul_add, add_comm]

/-- Limbs on top of others count with the weight of their position (40_wide_integer.md R100). -/
theorem natOfLimbs_append (xs ys : List Limb) :
    natOfLimbs (xs ++ ys) = natOfLimbs xs + 2 ^ (64 * xs.length) * natOfLimbs ys := by
  induction xs with
  | nil => simp [natOfLimbs]
  | cons x xs ih =>
    rw [List.cons_append, natOfLimbs_cons, natOfLimbs_cons, ih, List.length_cons, two_pow_limbs_succ]
    ring

theorem natOfLimbs_lt (ls : List Limb) : natOfLimbs ls < 2 ^ (64 * ls.length) := by
  induction ls with
  | nil => simp [natOfLimbs]
  | cons l ls ih =>
    have hl := l.isLt
    rw [natOfLimbs_cons, List.length_cons, two_pow_limbs_succ]
    omega

theorem natOfLimbs_replicate_zero (n : Nat) : natOfLimbs (List.replicate n 0) = 0 := by
  induction n with
  | zero => rfl
  | succ n ih => rw [List.replicate_succ, natOfLimbs_cons, ih]; rfl

theorem limb_toNat {w : Nat} (x : BitVec w) (i : Nat) : (limb x i).toNat = x.toNat / 2 ^ (64 * i) % 2 ^ 64 := by
  rw [limb, BitVec.extractLsb'_toNat, Nat.shiftRight_eq_div_pow]

/-- The lowest `n` limbs of a wide integer. -/
def lowLimbs {w : Nat} (x : BitVec w) (n : Nat) : List Limb := (List.range n).map (limb x)

theorem limbs_eq_lowLimbs {w : Nat} (x : BitVec w) : limbs x = lowLimbs x (limbCount w) := rfl

theorem lowLimbs_succ {w : Nat} (x : BitVec w) (n : Nat) : lowLimbs x (n + 1) = lowLimbs x n ++ [limb x n] := by
  simp [lowLimbs, List.range_succ]

@[simp] theorem lowLimbs_length {w : Nat} (x : BitVec w) (n : Nat) : (lowLimbs x n).length = n := by simp [lowLimbs]

theorem natOfLimbs_lowLimbs {w : Nat} (x : BitVec w) (n : Nat) :
    natOfLimbs (lowLimbs x n) = x.toNat % 2 ^ (64 * n) := by
  induction n with
  | zero => simp [lowLimbs, natOfLimbs, Nat.mod_one]
  | succ n ih =>
    have htop : natOfLimbs [limb x n] = x.toNat / 2 ^ (64 * n) % 2 ^ 64 := limb_toNat x n
    rw [lowLimbs_succ, natOfLimbs_append, lowLimbs_length, ih, htop, two_pow_limbs_succ, mul_comm (2 ^ 64), Nat.mod_mul]

theorem natOfLimbs_lowLimbs_lt {w : Nat} (x : BitVec w) (n : Nat) : natOfLimbs (lowLimbs x n) < 2 ^ (64 * n) := by
  rw [natOfLimbs_lowLimbs]
  exact Nat.mod_lt _ (Nat.two_pow_pos _)

/-- The limbs of a wide integer hold all of it, a last partial limb included (40_wide_integer.md R100). -/
theorem natOfLimbs_limbs {w : Nat} (x : BitVec w) : natOfLimbs (limbs x) = x.toNat := by
  have hcover : w ≤ 64 * limbCount w := by unfold limbCount; omega
  rw [limbs_eq_lowLimbs, natOfLimbs_lowLimbs]
  exact Nat.mod_eq_of_lt (x.isLt.trans_le (Nat.pow_le_pow_right Nat.two_pos hcover))

theorem limbs_length_whole {n : Nat} (x : BitVec (64 * n)) : (limbs x).length = n := by simp

theorem ofLimbs_toNat_of_lt {w : Nat} {ls : List Limb} (h : natOfLimbs ls < 2 ^ w) :
    (ofLimbs w ls).toNat = natOfLimbs ls := by
  rw [ofLimbs, BitVec.toNat_ofNat, Nat.mod_eq_of_lt h]

theorem ofLimbs_toNat_of_length {n : Nat} {ls : List Limb} (h : ls.length = n) :
    (ofLimbs (64 * n) ls).toNat = natOfLimbs ls :=
  ofLimbs_toNat_of_lt (h ▸ natOfLimbs_lt ls)

/-! ### The one-limb steps -/

/-- `ADD64C` loses nothing (40_wide_integer.md R102). -/
theorem add64c_exact (x y : Limb) (cin : Bool) :
    (add64c x y cin).1.toNat + 2 ^ 64 * (add64c x y cin).2.toNat = x.toNat + y.toNat + cin.toNat := by
  have hx := x.isLt
  have hy := y.isLt
  have hc := cin.toNat_le
  have hsum : (add64c x y cin).1.toNat = (x.toNat + y.toNat + cin.toNat) % 2 ^ 64 := by
    simp [add64c]
  rw [hsum]
  by_cases h : (x.toNat + y.toNat + cin.toNat) / 2 ^ 64 = 1
  · have hcarry : (add64c x y cin).2 = true := decide_eq_true h
    rw [hcarry, Bool.toNat_true]
    omega
  · have hcarry : (add64c x y cin).2 = false := decide_eq_false h
    rw [hcarry, Bool.toNat_false]
    omega

/-- `SUB64B` loses nothing (40_wide_integer.md R103). -/
theorem sub64b_exact (x y : Limb) (bin : Bool) :
    ((sub64b x y bin).1.toNat : Int) - 2 ^ 64 * ((sub64b x y bin).2.toNat : Int) =
      (x.toNat : Int) - y.toNat - bin.toNat := by
  have hx := x.isLt
  have hy := y.isLt
  have hb := bin.toNat_le
  have hdiff : ((sub64b x y bin).1.toNat : Int) = ((x.toNat : Int) - y.toNat - bin.toNat) % 2 ^ 64 := by
    rw [sub64b, BitVec.toNat_ofInt, Int.toNat_of_nonneg (Int.emod_nonneg _ (by decide))]
    rfl
  rw [hdiff]
  by_cases h : (x.toNat : Int) - y.toNat - bin.toNat < 0
  · have hborrow : (sub64b x y bin).2 = true := decide_eq_true h
    rw [hborrow, Bool.toNat_true]
    omega
  · have hborrow : (sub64b x y bin).2 = false := decide_eq_false h
    rw [hborrow, Bool.toNat_false]
    omega

/-- A number below `2^128` is its upper and lower limb. -/
theorem two_limbs_exact {p : Nat} (h : p < 2 ^ 128) :
    (BitVec.ofNat 64 (p / 2 ^ 64)).toNat * 2 ^ 64 + (BitVec.ofNat 64 (p % 2 ^ 64)).toNat = p := by
  rw [BitVec.toNat_ofNat, BitVec.toNat_ofNat]
  omega

/-- The multiply-with-carry step fits in two limbs: `(2^64 − 1)² + 2·(2^64 − 1) = 2^128 − 1`. -/
theorem limb_mul_add_add_lt (x y c acc : Limb) : x.toNat * y.toNat + c.toNat + acc.toNat < 2 ^ 128 := by
  have hmul := Nat.mul_le_mul (Nat.le_sub_one_of_lt x.isLt) (Nat.le_sub_one_of_lt y.isLt)
  have hc := c.isLt
  have hacc := acc.isLt
  omega

/-- `MUL64` gives the full product (40_wide_integer.md R107). -/
theorem mul64_exact (x y : Limb) :
    (mul64 x y).1.toNat * 2 ^ 64 + (mul64 x y).2.toNat = x.toNat * y.toNat :=
  two_limbs_exact (limb_mul_add_add_lt x y 0 0)

/-- `MULC64` loses nothing (40_wide_integer.md R108). -/
theorem mulc64_exact (x y c acc : Limb) :
    (mulc64 x y c acc).1.toNat * 2 ^ 64 + (mulc64 x y c acc).2.toNat = x.toNat * y.toNat + c.toNat + acc.toNat :=
  two_limbs_exact (limb_mul_add_add_lt x y c acc)

/-- Settles O51, step by step. -/
theorem oneLimbStepsAreExact : Obligations.OneLimbStepsAreExact :=
  ⟨fun x y cin => ⟨add64c_exact x y cin, sub64b_exact x y cin⟩,
    fun x y c acc => ⟨mul64_exact x y, mulc64_exact x y c acc⟩⟩

/-! ### The carry and borrow chains -/

theorem addLimbs_cons (x y : Limb) (xs ys : List Limb) (c : Bool) :
    addLimbs (x :: xs) (y :: ys) c =
      ((add64c x y c).1 :: (addLimbs xs ys (add64c x y c).2).1, (addLimbs xs ys (add64c x y c).2).2) := rfl

theorem subLimbs_cons (x y : Limb) (xs ys : List Limb) (b : Bool) :
    subLimbs (x :: xs) (y :: ys) b =
      ((sub64b x y b).1 :: (subLimbs xs ys (sub64b x y b).2).1, (subLimbs xs ys (sub64b x y b).2).2) := rfl

theorem addLimbs_length {xs ys : List Limb} (h : xs.length = ys.length) (c : Bool) :
    (addLimbs xs ys c).1.length = xs.length := by
  induction xs generalizing ys c with
  | nil => rfl
  | cons x xs ih =>
    cases ys with
    | nil => cases h
    | cons y ys => rw [addLimbs_cons, List.length_cons, ih (Nat.succ.inj h), List.length_cons]

theorem subLimbs_length {xs ys : List Limb} (h : xs.length = ys.length) (b : Bool) :
    (subLimbs xs ys b).1.length = xs.length := by
  induction xs generalizing ys b with
  | nil => rfl
  | cons x xs ih =>
    cases ys with
    | nil => cases h
    | cons y ys => rw [subLimbs_cons, List.length_cons, ih (Nat.succ.inj h), List.length_cons]

/-- The carry chain loses nothing: each carry out of a limb goes into the next (40_wide_integer.md R104). -/
theorem addLimbs_exact {xs ys : List Limb} (h : xs.length = ys.length) (c : Bool) :
    natOfLimbs (addLimbs xs ys c).1 + 2 ^ (64 * xs.length) * (addLimbs xs ys c).2.toNat =
      natOfLimbs xs + natOfLimbs ys + c.toNat := by
  induction xs generalizing ys c with
  | nil =>
    cases ys with
    | nil => simp [addLimbs, natOfLimbs]
    | cons y ys => cases h
  | cons x xs ih =>
    cases ys with
    | nil => cases h
    | cons y ys =>
      have hlow := add64c_exact x y c
      have hhigh := ih (Nat.succ.inj h) (add64c x y c).2
      simp only [addLimbs_cons, natOfLimbs_cons, List.length_cons, two_pow_limbs_succ]
      linear_combination hlow + 2 ^ 64 * hhigh

/-- The borrow chain loses nothing (40_wide_integer.md R105). -/
theorem subLimbs_exact {xs ys : List Limb} (h : xs.length = ys.length) (b : Bool) :
    (natOfLimbs (subLimbs xs ys b).1 : Int) - 2 ^ (64 * xs.length) * ((subLimbs xs ys b).2.toNat : Int) =
      (natOfLimbs xs : Int) - natOfLimbs ys - b.toNat := by
  induction xs generalizing ys b with
  | nil =>
    cases ys with
    | nil => simp [subLimbs, natOfLimbs]
    | cons y ys => cases h
  | cons x xs ih =>
    cases ys with
    | nil => cases h
    | cons y ys =>
      have hlow := sub64b_exact x y b
      have hhigh := ih (Nat.succ.inj h) (sub64b x y b).2
      simp only [subLimbs_cons, natOfLimbs_cons, List.length_cons, mul_add, pow_add]
      push_cast
      linear_combination hlow + 2 ^ 64 * hhigh

section WholeLimbs
variable {n : Nat} (x y : BitVec (64 * n))

theorem limbs_length_eq : (limbs x).length = (limbs y).length := by simp

theorem addU_toNat (cin : Bool) :
    (addU x y cin).1.toNat = natOfLimbs (addLimbs (limbs x) (limbs y) cin).1 :=
  ofLimbs_toNat_of_length (by rw [addLimbs_length (limbs_length_eq x y), limbs_length_whole])

theorem subU_toNat (bin : Bool) :
    (subU x y bin).1.toNat = natOfLimbs (subLimbs (limbs x) (limbs y) bin).1 :=
  ofLimbs_toNat_of_length (by rw [subLimbs_length (limbs_length_eq x y), limbs_length_whole])

/-- The result law of `ADDU_N` (40_wide_integer.md R104). -/
theorem addU_exact (cin : Bool) :
    (addU x y cin).1.toNat + 2 ^ (64 * n) * (addU x y cin).2.toNat = x.toNat + y.toNat + cin.toNat := by
  have h := addLimbs_exact (limbs_length_eq x y) cin
  rw [natOfLimbs_limbs, natOfLimbs_limbs, limbs_length_whole] at h
  rw [addU_toNat]
  exact h

/-- The result law of `SUBU_N` (40_wide_integer.md R105). -/
theorem subU_exact (bin : Bool) :
    ((subU x y bin).1.toNat : Int) - 2 ^ (64 * n) * ((subU x y bin).2.toNat : Int) =
      (x.toNat : Int) - y.toNat - bin.toNat := by
  have h := subLimbs_exact (limbs_length_eq x y) bin
  rw [natOfLimbs_limbs, natOfLimbs_limbs, limbs_length_whole] at h
  rw [subU_toNat]
  exact h

end WholeLimbs

/-- Settles O52, by the carry and the borrow chain. -/
theorem wideAddAndSubtractAreExact : Obligations.WideAddAndSubtractAreExact :=
  fun _ x y cin => ⟨addU_exact x y cin, subU_exact x y cin⟩

end Sys2Proof.Machine
end

section
/-! PROOFS. Signed addition and subtraction, sign helpers and products of the wide-integer core (40_wide_integer.md
R106, R109 to R111), from the chains and the one-limb steps. -/
namespace Sys2Proof.Machine

/-! ### Signed addition and subtraction -/

/-- The limb-level sum is the sum modulo `2^N` (40_wide_integer.md R104). -/
theorem addU_false_eq {n : Nat} (x y : BitVec (64 * n)) : (addU x y false).1 = x + y := by
  have h := addU_exact x y false
  rw [Bool.toNat_false, add_zero] at h
  refine BitVec.eq_of_toNat_eq ?_
  rw [BitVec.toNat_add, ← h, Nat.add_mul_mod_self_left, Nat.mod_eq_of_lt (BitVec.isLt _)]

/-- The limb-level difference is the difference modulo `2^N` (40_wide_integer.md R105). -/
theorem subU_false_eq {n : Nat} (x y : BitVec (64 * n)) : (subU x y false).1 = x - y := by
  have h := subU_exact x y false
  rw [Bool.toNat_false, Nat.cast_zero, sub_zero] at h
  have hsum : (subU x y false).1.toNat + y.toNat = x.toNat + 2 ^ (64 * n) * (subU x y false).2.toNat := by
    zify
    linear_combination h
  refine BitVec.eq_sub_iff_add_eq.2 (BitVec.eq_of_toNat_eq ?_)
  rw [BitVec.toNat_add, hsum, Nat.add_mul_mod_self_left, Nat.mod_eq_of_lt x.isLt]

theorem ofInt_toInt_add {w : Nat} (x y : BitVec w) : BitVec.ofInt w (x.toInt + y.toInt) = x + y := by
  rw [BitVec.ofInt_add, BitVec.ofInt_toInt, BitVec.ofInt_toInt]

theorem ofInt_toInt_sub {w : Nat} (x y : BitVec w) : BitVec.ofInt w (x.toInt - y.toInt) = x - y := by
  rw [sub_eq_add_neg, BitVec.ofInt_add, BitVec.ofInt_neg, BitVec.ofInt_toInt, BitVec.ofInt_toInt, BitVec.sub_eq_add_neg]

section OverflowDirection
variable (w : Nat) (t : Int)

/-- All `overflowDirection` can say (40_wide_integer.md R106). -/
theorem overflowDirection_cases :
    ((2 ^ (w - 1) : Int) ≤ t ∧ overflowDirection w t = 1) ∨
    (t < -(2 ^ (w - 1) : Int) ∧ overflowDirection w t = -1) ∨
    (t < (2 ^ (w - 1) : Int) ∧ -(2 ^ (w - 1) : Int) ≤ t ∧ overflowDirection w t = 0) := by
  unfold overflowDirection
  push_cast
  split
  · exact .inl ⟨by omega, rfl⟩
  · split
    · exact .inr (.inl ⟨by omega, rfl⟩)
    · exact .inr (.inr ⟨by omega, by omega, rfl⟩)

/-- Each direction exactly when the result lies on that side of the range (40_wide_integer.md R106). -/
theorem overflowDirection_spec :
    (overflowDirection w t = 1 ↔ (2 ^ (w - 1) : Int) - 1 < t) ∧
    (overflowDirection w t = -1 ↔ t < -(2 ^ (w - 1) : Int)) ∧
    (overflowDirection w t = 1 ∨ overflowDirection w t = -1 ∨ overflowDirection w t = 0) := by
  have hpos : (0 : Int) < 2 ^ (w - 1) := by positivity
  obtain ⟨ht, hd⟩ | ⟨ht, hd⟩ | ⟨hhigh, hlow, hd⟩ := overflowDirection_cases w t <;> omega

/-- The direction is read off a sign bit that is right whenever the true result is out of range. -/
theorem overflowDirection_eq_of_sign {neg : Bool} (hhigh : (2 ^ (w - 1) : Int) ≤ t → neg = false)
    (hlow : t < -(2 ^ (w - 1) : Int) → neg = true) :
    overflowDirection w t =
      if (2 ^ (w - 1) : Int) ≤ t ∨ t < -(2 ^ (w - 1) : Int) then (if neg then -1 else 1) else 0 := by
  obtain ⟨ht, hd⟩ | ⟨ht, hd⟩ | ⟨hbelow, habove, hd⟩ := overflowDirection_cases w t
  · rw [hd, if_pos (.inl ht), hhigh ht]
    rfl
  · rw [hd, if_pos (.inr ht), hlow ht]
    rfl
  · rw [hd, if_neg (by omega)]

end OverflowDirection

section SignBits
variable {w : Nat} (x y : BitVec w)

/-- Addition overflows when the operands have the same sign and the sum has another (40_wide_integer.md R106). -/
theorem add_signBits_iff : (x.msb = y.msb ∧ x.msb ≠ (x + y).msb) ↔
    ((2 ^ (w - 1) : Int) ≤ x.toInt + y.toInt ∨ x.toInt + y.toInt < -(2 ^ (w - 1) : Int)) := by
  have hover : x.saddOverflow y = true ↔
      ((2 ^ (w - 1) : Int) ≤ x.toInt + y.toInt ∨ x.toInt + y.toInt < -(2 ^ (w - 1) : Int)) := by
    simp [BitVec.saddOverflow]
  rw [← hover, BitVec.saddOverflow_eq]
  cases x.msb <;> simp

/-- Subtraction overflows when the operands have different signs and the difference has not that of the first
(40_wide_integer.md R106). -/
theorem sub_signBits_iff : (x.msb ≠ y.msb ∧ (x - y).msb ≠ x.msb) ↔
    ((2 ^ (w - 1) : Int) ≤ x.toInt - y.toInt ∨ x.toInt - y.toInt < -(2 ^ (w - 1) : Int)) := by
  have hover : x.ssubOverflow y = true ↔
      ((2 ^ (w - 1) : Int) ≤ x.toInt - y.toInt ∨ x.toInt - y.toInt < -(2 ^ (w - 1) : Int)) := by
    simp [BitVec.ssubOverflow]
  rw [← hover, BitVec.ssubOverflow_eq]
  cases x.msb <;> simp

theorem msb_eq_false_of_nonneg (h : 0 ≤ x.toInt) : x.msb = false := by
  rw [BitVec.msb_eq_toInt]
  exact decide_eq_false (Int.not_lt.2 h)

theorem msb_eq_true_of_neg (h : x.toInt < 0) : x.msb = true := by
  rw [BitVec.msb_eq_toInt]
  exact decide_eq_true h

/-- The sign-bit test of addition gives the direction of the true sum (40_wide_integer.md R106). -/
theorem overflowDirection_add : overflowDirection w (x.toInt + y.toInt) =
    if x.msb = y.msb ∧ x.msb ≠ (x + y).msb then (if x.msb then -1 else 1) else 0 := by
  have hy := BitVec.toInt_lt (x := y)
  have hy' := BitVec.le_toInt y
  rw [if_congr (add_signBits_iff x y) rfl rfl]
  exact overflowDirection_eq_of_sign w _ (fun h => msb_eq_false_of_nonneg x (by omega))
    (fun h => msb_eq_true_of_neg x (by omega))

/-- The sign-bit test of subtraction gives the direction of the true difference (40_wide_integer.md R106). -/
theorem overflowDirection_sub : overflowDirection w (x.toInt - y.toInt) =
    if x.msb ≠ y.msb ∧ (x - y).msb ≠ x.msb then (if x.msb then -1 else 1) else 0 := by
  have hy := BitVec.toInt_lt (x := y)
  have hy' := BitVec.le_toInt y
  rw [if_congr (sub_signBits_iff x y) rfl rfl]
  exact overflowDirection_eq_of_sign w _ (fun h => msb_eq_false_of_nonneg x (by omega))
    (fun h => msb_eq_true_of_neg x (by omega))

end SignBits

theorem addSLimbs_eq_addS {n : Nat} (x y : BitVec (64 * n)) : addSLimbs x y = addS x y := by
  rw [addS, ofInt_toInt_add, overflowDirection_add, addSLimbs, addU_false_eq]

theorem subSLimbs_eq_subS {n : Nat} (x y : BitVec (64 * n)) : subSLimbs x y = subS x y := by
  rw [subS, ofInt_toInt_sub, overflowDirection_sub, subSLimbs, subU_false_eq]

/-- Settles O53: the limb-level pairs are those of the integer law, whose direction says where the true result lies. -/
theorem signedOverflowTestIsTheIntegerLaw : Obligations.SignedOverflowTestIsTheIntegerLaw := by
  intro n x y _
  refine ⟨addSLimbs_eq_addS x y, subSLimbs_eq_subS x y, fun u t hut => ?_⟩
  rw [addSLimbs_eq_addS, subSLimbs_eq_subS, List.mem_pair] at hut
  obtain h | h := hut
  · obtain ⟨rfl, rfl⟩ := Prod.mk_inj.1 h
    exact ⟨rfl, overflowDirection_spec _ _⟩
  · obtain ⟨rfl, rfl⟩ := Prod.mk_inj.1 h
    exact ⟨rfl, overflowDirection_spec _ _⟩

/-! ### Sign, negation and magnitude -/

/-- The magnitude of a signed value fits in `N` unsigned bits (40_wide_integer.md R110). -/
theorem two_mul_natAbs_toInt_le {w : Nat} (x : BitVec w) : 2 * x.toInt.natAbs ≤ 2 ^ w := by
  have hlow := BitVec.le_two_mul_toInt (x := x)
  have hhigh := BitVec.two_mul_toInt_lt (x := x)
  have hcast : ((2 ^ w : Nat) : Int) = 2 ^ w := Nat.cast_pow 2 w
  omega

theorem absN_toNat {w : Nat} (x : BitVec w) : (absN x).toNat = x.toInt.natAbs := by
  have hle := two_mul_natAbs_toInt_le x
  have hpos := Nat.two_pow_pos w
  rw [absN, BitVec.toNat_ofNat]
  exact Nat.mod_eq_of_lt (by omega)

theorem negN_overflow_iff {w : Nat} (x : BitVec w) : (negN x).2 = true ↔ x.toInt = -(2 ^ (w - 1) : Int) := by
  simp [negN]

/-- Above the minimum the negation is in range (40_wide_integer.md R110). -/
theorem negN_toInt {w : Nat} (hw : 1 ≤ w) {x : BitVec w} (h : (negN x).2 = false) : (negN x).1.toInt = -x.toInt := by
  have hne : x.toInt ≠ -(2 ^ (w - 1) : Int) := by
    rw [← Bool.not_eq_true, negN_overflow_iff] at h
    exact h
  have hlow := BitVec.le_toInt x
  have hhigh := BitVec.toInt_lt (x := x)
  exact BitVec.toInt_ofInt_eq_self hw (by omega) (by omega)

/-- Negating the minimum leaves its pattern, since `2^(N−1)` and `−2^(N−1)` agree modulo `2^N` (40_wide_integer.md
R110). -/
theorem negN_of_overflow {w : Nat} (hw : 1 ≤ w) {x : BitVec w} (h : (negN x).2 = true) : (negN x).1 = x := by
  have hmin := (negN_overflow_iff x).1 h
  have hpow : (2 : Int) ^ w = 2 * 2 ^ (w - 1) := by rw [← pow_succ', Nat.sub_add_cancel hw]
  have hself : -x.toInt = x.toInt + ((2 ^ w : Nat) : Int) := by
    push_cast
    omega
  have hzero : BitVec.ofInt w ((2 ^ w : Nat) : Int) = 0#w := by
    rw [BitVec.ofInt_natCast]
    exact BitVec.eq_of_toNat_eq (by rw [BitVec.toNat_ofNat, Nat.mod_self, BitVec.toNat_zero])
  rw [negN, hself, BitVec.ofInt_add, BitVec.ofInt_toInt, hzero, BitVec.add_zero]

/-- Settles O55, helper by helper. -/
theorem signHelpers : Obligations.SignHelpers := fun _ x hn =>
  ⟨rfl, absN_toNat x, negN_overflow_iff x, negN_toInt (by omega), negN_of_overflow (by omega)⟩

/-! ### Products -/

theorem mulRow_cons (x y acc c : Limb) (ys accs : List Limb) :
    mulRow x (y :: ys) (acc :: accs) c = (mulc64 x y c acc).2 :: mulRow x ys accs (mulc64 x y c acc).1 := rfl

theorem mulRow_length (x : Limb) {ys accs : List Limb} (h : accs.length = ys.length) (c : Limb) :
    (mulRow x ys accs c).length = ys.length + 1 := by
  induction ys generalizing accs c with
  | nil => simp [mulRow]
  | cons y ys ih =>
    cases accs with
    | nil => cases h
    | cons acc accs => rw [mulRow_cons, List.length_cons, ih (Nat.succ.inj h), List.length_cons]

/-- The inner loop adds `x·y` to the running product (40_wide_integer.md R109). -/
theorem natOfLimbs_mulRow (x : Limb) {ys accs : List Limb} (h : accs.length = ys.length) (c : Limb) :
    natOfLimbs (mulRow x ys accs c) = x.toNat * natOfLimbs ys + natOfLimbs accs + c.toNat := by
  induction ys generalizing accs c with
  | nil =>
    cases accs with
    | nil => simp [mulRow, natOfLimbs]
    | cons acc accs => cases h
  | cons y ys ih =>
    cases accs with
    | nil => cases h
    | cons acc accs =>
      have hstep := mulc64_exact x y c acc
      have hrest := ih (Nat.succ.inj h) (mulc64 x y c acc).1
      simp only [mulRow_cons, natOfLimbs_cons]
      linear_combination hstep + 2 ^ 64 * hrest

/-- The outer loop adds the product of the values to the running product (40_wide_integer.md R109). -/
theorem natOfLimbs_mulLimbs (xs : List Limb) {ys acc : List Limb} (h : acc.length = ys.length) :
    natOfLimbs (mulLimbs xs ys acc) = natOfLimbs xs * natOfLimbs ys + natOfLimbs acc := by
  induction xs generalizing acc with
  | nil => simp [mulLimbs, natOfLimbs]
  | cons x xs ih =>
    have hlength := mulRow_length x h 0
    have hrow := natOfLimbs_mulRow x h 0
    cases hlow : mulRow x ys acc 0 with
    | nil =>
      rw [hlow] at hlength
      cases hlength
    | cons low rest =>
      rw [hlow] at hlength hrow
      have hloop : mulLimbs (x :: xs) ys acc = low :: mulLimbs xs ys rest := by rw [mulLimbs, hlow]
      have hzero : (0 : Limb).toNat = 0 := rfl
      rw [natOfLimbs_cons, hzero] at hrow
      rw [hloop, natOfLimbs_cons, natOfLimbs_cons, ih (Nat.succ.inj hlength)]
      linear_combination hrow

/-- `MULU_N` gives the full product, at every width (40_wide_integer.md R109). -/
theorem mulU_toNat {w : Nat} (x y : BitVec w) : (mulU x y).toNat = x.toNat * y.toNat := by
  have hvalue : natOfLimbs (mulLimbs (limbs x) (limbs y) (List.replicate (limbCount w) 0)) = x.toNat * y.toNat := by
    rw [natOfLimbs_mulLimbs _ (by simp), natOfLimbs_limbs, natOfLimbs_limbs, natOfLimbs_replicate_zero, add_zero]
  have hlt : x.toNat * y.toNat < 2 ^ (2 * w) := by
    rw [two_mul, pow_add]
    exact Nat.mul_lt_mul'' x.isLt y.isLt
  rw [mulU, ofLimbs_toNat_of_lt (hvalue ▸ hlt), hvalue]

/-- The product of the magnitudes is the magnitude of the product (40_wide_integer.md R111). -/
theorem mulU_absN_toNat {w : Nat} (x y : BitVec w) :
    (mulU (absN x) (absN y)).toNat = (x.toInt * y.toInt).natAbs := by
  rw [mulU_toNat, absN_toNat, absN_toNat, Int.natAbs_mul]

/-- Sign and magnitude together are the product modulo `2^2N` (40_wide_integer.md R111). -/
theorem mulS_eq_ofInt {w : Nat} (x y : BitVec w) : mulS x y = BitVec.ofInt (2 * w) (x.toInt * y.toInt) := by
  have hsign : signN x * signN y = (x.toInt * y.toInt).sign := (Int.sign_mul _ _).symm
  rw [mulS, hsign, mulU_absN_toNat]
  by_cases h : 0 ≤ x.toInt * y.toInt
  · rw [if_pos (Int.sign_nonneg_iff.2 h), ← Int.natAbs_of_nonneg h, BitVec.ofInt_natCast, ← mulU_absN_toNat,
      BitVec.ofNat_toNat, BitVec.setWidth_eq]
  · rw [if_neg (mt Int.sign_nonneg_iff.1 h), Int.ofNat_natAbs_of_nonpos (by omega), neg_neg]

/-- The product of two signed values fits in `2N` signed bits, at the minimum too (40_wide_integer.md R111). -/
theorem mulS_toInt {w : Nat} (x y : BitVec w) : (mulS x y).toInt = x.toInt * y.toInt := by
  have hquarter : 4 * (x.toInt * y.toInt).natAbs ≤ 2 ^ (2 * w) := by
    have h := Nat.mul_le_mul (two_mul_natAbs_toInt_le x) (two_mul_natAbs_toInt_le y)
    rw [Int.natAbs_mul, two_mul w, pow_add]
    linarith
  have hpos := Nat.two_pow_pos (2 * w)
  rw [mulS_eq_ofInt, BitVec.toInt_ofInt]
  exact Int.bmod_eq_of_le_mul_two (by omega) (by omega)

/-- Settles O54, by the schoolbook loop and sign and magnitude. -/
theorem wideProductsAreExact : Obligations.WideProductsAreExact := fun _ x y => ⟨mulU_toNat x y, mulS_toInt x y⟩

end Sys2Proof.Machine
end

section
/-! PROOFS. Shifts, comparison and division of the wide-integer core (40_wide_integer.md R112 to R116). -/
namespace Sys2Proof.Machine

/-! ### Shifts -/

section Shifts
variable {w : Nat} (x : BitVec w) {s : Nat}

/-- What `SHL_N` shifts out fits in `N` bits, since `s ≤ N` (40_wide_integer.md R112). -/
theorem shl_exact (hs : s ≤ w) : (shl x s).1.toNat + 2 ^ w * (shl x s).2.toNat = x.toNat * 2 ^ s := by
  have hlost : x.toNat * 2 ^ s / 2 ^ w < 2 ^ w :=
    Nat.div_lt_of_lt_mul (Nat.mul_lt_mul_of_lt_of_le x.isLt (Nat.pow_le_pow_right Nat.two_pos hs) (Nat.two_pow_pos w))
  rw [shl, BitVec.toNat_ofNat, BitVec.toNat_ofNat, Nat.mod_mod, Nat.mod_eq_of_lt hlost, Nat.mod_add_div]

theorem shr_toNat (s : Nat) : (shr x s).toNat = x.toNat / 2 ^ s := by
  rw [shr, BitVec.toNat_ofNat]
  exact Nat.mod_eq_of_lt ((Nat.div_le_self _ _).trans_lt x.isLt)

theorem shr_width : shr x w = 0 := by
  refine BitVec.eq_of_toNat_eq ?_
  rw [shr_toNat, Nat.div_eq_of_lt x.isLt]
  rfl

/-- Rounding toward −∞ stays between the value and 0 or −1, so in range (40_wide_integer.md R114). -/
theorem sar_toInt (hw : 1 ≤ w) (s : Nat) : (sar x s).toInt = x.toInt / 2 ^ s := by
  have hlow := BitVec.le_toInt x
  have hhigh := BitVec.toInt_lt (x := x)
  have hdiv : (0 : Int) < 2 ^ s := by positivity
  have hone : (1 : Int) ≤ 2 ^ s := hdiv
  have hpos : (0 : Int) < 2 ^ (w - 1) := by positivity
  rw [sar, Nat.cast_pow, Nat.cast_two]
  refine BitVec.toInt_ofInt_eq_self hw ((Int.le_ediv_iff_mul_le hdiv).2 ?_) ((Int.ediv_lt_iff_lt_mul hdiv).2 ?_)
  · nlinarith
  · nlinarith

theorem sar_width : sar x w = if x.toInt < 0 then BitVec.ofInt w (-1) else 0 := by
  have hlow := BitVec.le_two_mul_toInt (x := x)
  have hhigh := BitVec.two_mul_toInt_lt (x := x)
  have hpos : (0 : Int) < 2 ^ w := by positivity
  rw [sar, Nat.cast_pow, Nat.cast_two]
  by_cases h : x.toInt < 0
  · rw [if_pos h, Int.ediv_eq_neg_one_of_neg_of_le h (by omega)]
  · rw [if_neg h, Int.ediv_eq_zero_of_lt (Int.not_lt.1 h) (by omega)]
    rfl

end Shifts

/-- Settles O56, shift by shift. -/
theorem shiftLaws : Obligations.ShiftLaws := fun _ x s hw hs =>
  ⟨shl_exact x hs, shr_toNat x s, sar_toInt x hw s, sar_width x, shr_width x⟩

/-! ### Comparison -/

/-- The order of `low + P·a` is that of `a`, and that of `low` where the `a` are equal. -/
theorem compare_add_mul {P low low' : Nat} (hlow : low < P) (hlow' : low' < P) (a b : Int) :
    compare ((low : Int) + P * a) (low' + P * b) =
      if a < b then .lt else if b < a then .gt else compare low low' := by
  have hlt : ∀ {l m : Nat} {c d : Int}, l < P → c < d → (l : Int) + P * c < m + P * d := by
    intro l m c d hl hcd
    have hmul : (P : Int) * (c + 1) ≤ P * d := Int.mul_le_mul_of_nonneg_left hcd (Int.natCast_nonneg P)
    rw [mul_add, mul_one] at hmul
    omega
  obtain h | h | h := lt_trichotomy a b
  · rw [if_pos h, compare_lt_iff_lt]
    exact hlt hlow h
  · subst h
    rw [if_neg (lt_irrefl a), if_neg (lt_irrefl a)]
    obtain h | h | h := lt_trichotomy low low'
    · rw [compare_lt_iff_lt.2 h, compare_lt_iff_lt]
      omega
    · rw [h, compare_eq_iff_eq.2 rfl, compare_eq_iff_eq.2 rfl]
    · rw [compare_gt_iff_gt.2 h, compare_gt_iff_gt]
      omega
  · rw [if_neg (lt_asymm h), if_pos h, compare_gt_iff_gt]
    exact hlt hlow' h

theorem compare_natCast (a b : Nat) : compare (a : Int) (b : Int) = compare a b := by
  simpa using compare_add_mul (low := a) (low' := b) (P := max a b + 1) (by omega) (by omega) 0 0

/-- The value of limbs, most significant first, of which `x` is the first. -/
theorem natOfLimbs_reverse_cons (x : Limb) (xs : List Limb) :
    (natOfLimbs (x :: xs).reverse : Int) =
      natOfLimbs xs.reverse + (2 ^ (64 * xs.length) : Nat) * (x.toNat : Int) := by
  have hone : natOfLimbs [x] = x.toNat := rfl
  rw [List.reverse_cons, natOfLimbs_append, List.length_reverse, hone]
  push_cast
  rfl

theorem natOfLimbs_reverse_lt (xs : List Limb) : natOfLimbs xs.reverse < 2 ^ (64 * xs.length) :=
  List.length_reverse (as := xs) ▸ natOfLimbs_lt xs.reverse

/-- The first unequal limb from the top decides the order of the values (40_wide_integer.md R115). -/
theorem cmpLimbs_eq_compare {xs ys : List Limb} (h : xs.length = ys.length) :
    cmpLimbs xs ys = compare (natOfLimbs xs.reverse) (natOfLimbs ys.reverse) := by
  induction xs generalizing ys with
  | nil =>
    cases ys with
    | nil => rfl
    | cons y ys => cases h
  | cons x xs ih =>
    cases ys with
    | nil => cases h
    | cons y ys =>
      have htail : xs.length = ys.length := Nat.succ.inj h
      have hx := natOfLimbs_reverse_lt xs
      rw [htail] at hx
      rw [← compare_natCast, natOfLimbs_reverse_cons, natOfLimbs_reverse_cons, htail,
        compare_add_mul hx (natOfLimbs_reverse_lt ys), cmpLimbs, ih htail]
      simp only [Nat.cast_lt]

theorem cmpU_eq_compare {w : Nat} (x y : BitVec w) : cmpU x y = compare x.toNat y.toNat := by
  rw [cmpU, cmpLimbs_eq_compare (by simp), List.reverse_reverse, List.reverse_reverse, natOfLimbs_limbs,
    natOfLimbs_limbs]

section TopLimb
variable {n : Nat} (x : BitVec (64 * (n + 1)))

theorem limbs_whole_succ : limbs x = lowLimbs x n ++ [limb x n] := by
  rw [limbs_eq_lowLimbs, limbCount_whole, lowLimbs_succ]

/-- A signed value is that of its top limb, signed, over the lower limbs, unsigned (40_wide_integer.md R115). -/
theorem toInt_eq_lowLimbs_add_top :
    x.toInt = natOfLimbs (lowLimbs x n) + (2 ^ (64 * n) : Nat) * (limb x n).toInt := by
  have hvalue : x.toNat = natOfLimbs (lowLimbs x n) + 2 ^ (64 * n) * (limb x n).toNat := by
    have h := natOfLimbs_limbs x
    rw [limbs_whole_succ, natOfLimbs_append, lowLimbs_length] at h
    exact h.symm
  have hlow := natOfLimbs_lowLimbs_lt x n
  have hsign : 2 * x.toNat < 2 ^ (64 * (n + 1)) ↔ 2 * (limb x n).toNat < 2 ^ 64 := by
    rw [hvalue, two_pow_limbs_succ]
    constructor
    · intro h
      by_contra hge
      nlinarith
    · intro h
      have htop : (limb x n).toNat + 1 ≤ 2 ^ 63 := by omega
      nlinarith
  rw [BitVec.toInt_eq_toNat_cond, BitVec.toInt_eq_toNat_cond, if_congr hsign rfl rfl, hvalue, two_pow_limbs_succ]
  by_cases h : 2 * (limb x n).toNat < 2 ^ 64
  · rw [if_pos h, if_pos h]
    push_cast
    rfl
  · rw [if_neg h, if_neg h]
    push_cast
    ring

end TopLimb

/-- Comparison of whole limbs, the top one signed, is the order of the signed values (40_wide_integer.md R115). -/
theorem cmpLimbsSigned_eq_compare {n : Nat} (x y : BitVec (64 * n)) :
    cmpLimbsSigned (limbs x).reverse (limbs y).reverse = compare x.toInt y.toInt := by
  cases n with
  | zero =>
    have hx : x = 0 := BitVec.of_length_zero
    have hy : y = 0 := BitVec.of_length_zero
    subst hx hy
    rfl
  | succ n =>
    rw [limbs_whole_succ, limbs_whole_succ, List.reverse_concat, List.reverse_concat, cmpLimbsSigned,
      cmpLimbs_eq_compare (by simp), List.reverse_reverse, List.reverse_reverse, toInt_eq_lowLimbs_add_top x,
      toInt_eq_lowLimbs_add_top y, compare_add_mul (natOfLimbs_lowLimbs_lt x n) (natOfLimbs_lowLimbs_lt y n)]

/-- Sign extension to whole limbs keeps the signed value (40_wide_integer.md R115). -/
theorem signExtendToLimbs_toInt {w : Nat} (x : BitVec w) : (signExtendToLimbs x).toInt = x.toInt :=
  BitVec.toInt_signExtend_of_le (by unfold limbCount; omega)

theorem cmpS_eq_compare {w : Nat} (x y : BitVec w) : cmpS x y = compare x.toInt y.toInt := by
  rw [cmpS, cmpLimbsSigned_eq_compare, signExtendToLimbs_toInt, signExtendToLimbs_toInt]

/-- Settles O57, by the order of limbs, signed and unsigned. -/
theorem limbComparisonIsTheOrder : Obligations.LimbComparisonIsTheOrder :=
  fun _ x y => ⟨cmpU_eq_compare x y, cmpS_eq_compare x y⟩

/-! ### Division -/

theorem udivrem_quotient_toNat (n : BitVec 384) (d : BitVec 257) : (udivrem n d).1.toNat = n.toNat / d.toNat := by
  rw [udivrem, BitVec.toNat_ofNat]
  exact Nat.mod_eq_of_lt ((Nat.div_le_self _ _).trans_lt n.isLt)

theorem udivrem_remainder_toNat (n : BitVec 384) {d : BitVec 257} (hd : 0 < d.toNat) :
    (udivrem n d).2.toNat = n.toNat % d.toNat := by
  rw [udivrem, BitVec.toNat_ofNat]
  exact Nat.mod_eq_of_lt (lt_trans (Nat.mod_lt _ hd) d.isLt)

/-- Settles O58: quotient and remainder fit their widths. -/
theorem divisionLaw : Obligations.DivisionLaw := by
  intro n d hd
  have hpos : 0 < d.toNat := Nat.pos_of_ne_zero fun h => hd (BitVec.eq_of_toNat_eq (h.trans BitVec.toNat_zero.symm))
  rw [udivrem_quotient_toNat, udivrem_remainder_toNat n hpos]
  exact ⟨(Nat.div_add_mod' _ _).symm, Nat.mod_lt _ hpos⟩

end Sys2Proof.Machine
end

section
/-! PROOFS. Rounding and the common ending of the exact operations (41_fixed_arith.md R141, R142): `RDIV` is the one
quotient that the rounding relation allows, and each outcome of `FINISH` by the inequality that asks for it. -/
namespace Sys2Proof

/-! ### The range of a type and its scale -/

theorem Ty.min_nonpos (t : Ty) : t.min ≤ 0 := by cases t <;> decide

theorem Ty.max_nonneg (t : Ty) : 0 ≤ t.max := by cases t <;> decide

theorem Ty.min_of_unsigned {t : Ty} (h : t.signed = false) : t.min = 0 := (Ty.range_of_unsigned h).1

end Sys2Proof

namespace Sys2Proof.Machine

/-! ### `RDIV` and the rounding relation -/

theorem roundedMagnitude_zero_left (m : RMode) (b : Nat) : roundedMagnitude m 0 b = 0 := by
  cases m with
  | halfUp =>
    obtain rfl | hb := Nat.eq_zero_or_pos b
    · rfl
    · exact Nat.div_eq_of_lt (by omega)
  | down => exact Nat.zero_div b

/-- `RDIV` is sign and magnitude (41_fixed_arith.md R141). -/
theorem rdiv_eq_sign_mul (m : RMode) (n : Int) {d : Int} (hd : d ≠ 0) :
    rdiv m n d = n.sign * d.sign * (roundedMagnitude m n.natAbs d.natAbs : Nat) := by
  obtain hn | rfl | hn := lt_trichotomy n 0
  · obtain hd | hd := lt_or_gt_of_ne hd
    · simp [rdiv, hn, hd, Int.sign_eq_neg_one_of_neg]
    · simp [rdiv, hn, hd.le, hd, Int.sign_eq_neg_one_of_neg, Int.sign_eq_one_of_pos]
  · simp [rdiv, roundedMagnitude_zero_left]
  · obtain hd | hd := lt_or_gt_of_ne hd
    · simp [rdiv, hn, hn.le, hd, Int.sign_eq_neg_one_of_neg, Int.sign_eq_one_of_pos]
    · simp [rdiv, hn, hd, hn.not_gt, hd.not_gt, Int.sign_eq_one_of_pos]

section Rounding
variable {m : RMode} {n d q : Int}

/-- `RDIV` is symmetric about zero (41_fixed_arith.md R141). -/
theorem rdiv_neg_left (hd : d ≠ 0) : rdiv m (-n) d = -rdiv m n d := by
  simp [rdiv_eq_sign_mul, hd]

theorem rdiv_neg_right (hd : d ≠ 0) : rdiv m n (-d) = -rdiv m n d := by
  simp [rdiv_eq_sign_mul, hd]

theorem rdiv_natCast (m : RMode) (a b : Nat) : rdiv m a b = (roundedMagnitude m a b : Nat) := by
  simp [rdiv, (Int.natCast_nonneg a).not_gt, (Int.natCast_nonneg b).not_gt]

theorem roundsTo_neg_left : RoundsTo m (-n) d q ↔ RoundsTo m n d (-q) := by
  have herr : (-n - q * d).natAbs = (n - -q * d).natAbs := by rw [← Int.natAbs_neg]; ring_nf
  cases m with
  | halfUp => simp only [RoundsTo, NearestAway, herr, Int.natAbs_neg, neg_mul]
  | down => simp only [RoundsTo, TowardZero, herr, Int.natAbs_neg, neg_mul, mul_neg]

theorem roundsTo_neg_right : RoundsTo m n (-d) q ↔ RoundsTo m n d (-q) := by
  cases m with
  | halfUp => simp only [RoundsTo, NearestAway, Int.natAbs_neg, mul_neg, neg_mul]
  | down => simp only [RoundsTo, TowardZero, Int.natAbs_neg, mul_neg, neg_mul]

end Rounding

section NaturalFraction
variable {a b : Nat} {q : Int}

/-- Nearest with a tie away from zero, as a half-open interval around `a / b` (41_fixed_arith.md R141, HALF_UP). -/
theorem nearestAway_natCast_iff (hb : 0 < b) :
    NearestAway a b q ↔ 2 * (q * b) ≤ 2 * a + b ∧ 2 * a < 2 * (q * b) + b := by
  have hnegative : q * b < 0 → q * b ≤ -b := by
    intro h
    have hq : q ≤ -1 := Int.le_sub_one_of_lt (neg_of_mul_neg_left h (Int.natCast_nonneg b))
    simpa using Int.mul_le_mul_of_nonneg_right hq (Int.natCast_nonneg b)
  unfold NearestAway
  constructor
  · rintro ⟨hnear, htie⟩
    omega
  · rintro ⟨hlow, hhigh⟩
    omega

/-- The fraction dropped, as a half-open interval above `a / b` (41_fixed_arith.md R141, DOWN). -/
theorem towardZero_natCast_iff (hb : 0 < b) : TowardZero a b q ↔ q * b ≤ a ∧ a < q * b + b := by
  unfold TowardZero
  constructor
  · rintro ⟨herr, hle, -⟩
    omega
  · rintro ⟨hlow, hhigh⟩
    have hq : 0 ≤ q := by
      by_contra hneg
      nlinarith
    have hprod : 0 ≤ q * b := by positivity
    exact ⟨by omega, by omega, by positivity⟩

theorem roundsTo_natCast_iff {m : RMode} (hb : 0 < b) : RoundsTo m a b q ↔ q = rdiv m a b := by
  have hb' : (0 : Int) < b := Int.natCast_pos.2 hb
  rw [rdiv_natCast, eq_comm]
  cases m with
  | halfUp =>
    rw [RoundsTo, nearestAway_natCast_iff hb, roundedMagnitude]
    push_cast
    rw [Int.ediv_eq_iff_of_pos (by omega), mul_left_comm]
    omega
  | down =>
    rw [RoundsTo, towardZero_natCast_iff hb, roundedMagnitude]
    push_cast
    rw [Int.ediv_eq_iff_of_pos hb']

end NaturalFraction

section RoundedQuotient
variable {m : RMode} {n d q : Int}

/-- `RDIV` is the one integer that `n / d` rounds to: by the signs of `n` and `d` it is so because it is so for
naturals (41_fixed_arith.md R141). -/
theorem roundsTo_iff_eq_rdiv (hd : d ≠ 0) : RoundsTo m n d q ↔ q = rdiv m n d := by
  have hnat : ∀ (a : Nat) (q : Int), RoundsTo m a d q ↔ q = rdiv m a d := by
    intro a q
    obtain ⟨b, rfl | rfl⟩ := d.eq_nat_or_neg
    · exact roundsTo_natCast_iff (by omega)
    · rw [roundsTo_neg_right, rdiv_neg_right (by omega), roundsTo_natCast_iff (by omega), neg_eq_iff_eq_neg]
  obtain ⟨a, rfl | rfl⟩ := n.eq_nat_or_neg
  · exact hnat a q
  · rw [roundsTo_neg_left, rdiv_neg_left hd, hnat, neg_eq_iff_eq_neg]

theorem roundsTo_rdiv (m : RMode) (n : Int) (hd : d ≠ 0) : RoundsTo m n d (rdiv m n d) :=
  (roundsTo_iff_eq_rdiv hd).2 rfl

/-- Either rule errs by less than one unit. -/
theorem RoundsTo.natAbs_sub_lt (h : RoundsTo m n d q) (hd : d ≠ 0) : (n - q * d).natAbs < d.natAbs := by
  cases m with
  | halfUp =>
    obtain ⟨hnear, -⟩ : NearestAway n d q := h
    omega
  | down =>
    obtain ⟨herr, -⟩ : TowardZero n d q := h
    exact herr

/-- Rounding never turns the sign (41_fixed_arith.md R150 (d)). -/
theorem mul_rdiv_nonneg (hd : d ≠ 0) : 0 ≤ n * d * rdiv m n d := by
  have hsigned : n * d * rdiv m n d = n.natAbs * d.natAbs * (roundedMagnitude m n.natAbs d.natAbs : Nat) := by
    rw [rdiv_eq_sign_mul m n hd, ← Int.sign_mul_self n, ← Int.sign_mul_self d]
    ring
  rw [hsigned]
  positivity

theorem roundsTo_one_self : RoundsTo m n 1 n := by
  cases m with
  | halfUp => simp [RoundsTo, NearestAway]
  | down => simp [RoundsTo, TowardZero, mul_self_nonneg]

@[simp] theorem rdiv_one (m : RMode) (n : Int) : rdiv m n 1 = n :=
  ((roundsTo_iff_eq_rdiv one_ne_zero).1 roundsTo_one_self).symm

/-- A fraction rounds to zero when its magnitude is below one half, or under DOWN below one (41_fixed_arith.md R142). -/
theorem rdiv_halfUp_eq_zero_iff (hd : d ≠ 0) : rdiv .halfUp n d = 0 ↔ 2 * n.natAbs < d.natAbs := by
  rw [eq_comm, ← roundsTo_iff_eq_rdiv hd, RoundsTo, NearestAway, zero_mul, sub_zero]
  omega

theorem rdiv_down_eq_zero_iff (hd : d ≠ 0) : rdiv .down n d = 0 ↔ n.natAbs < d.natAbs := by
  rw [eq_comm, ← roundsTo_iff_eq_rdiv hd]
  simp [RoundsTo, TowardZero]

/-- A fraction between two integers rounds to an integer between them (41_fixed_arith.md R142). -/
theorem rdiv_mem_bounds {lo hi : Int} (hd : 0 < d) (hlo : lo * d ≤ n) (hhi : n ≤ hi * d) :
    lo ≤ rdiv m n d ∧ rdiv m n d ≤ hi := by
  have herr := (roundsTo_rdiv m n hd.ne').natAbs_sub_lt hd.ne'
  constructor
  · have h : (lo - 1) * d < rdiv m n d * d := by rw [sub_mul, one_mul]; omega
    exact Int.le_of_sub_one_lt (lt_of_mul_lt_mul_right h hd.le)
  · have h : rdiv m n d * d < (hi + 1) * d := by rw [add_mul, one_mul]; omega
    exact Int.lt_add_one_iff.1 (lt_of_mul_lt_mul_right h hd.le)

end RoundedQuotient

/-- Settles O30: uniqueness is `roundsTo_iff_eq_rdiv`. -/
theorem rdivRoundsOnMagnitudes : Obligations.RdivRoundsOnMagnitudes :=
  ⟨fun m n _ hd => ⟨roundsTo_rdiv m n hd, fun _ hq => (roundsTo_iff_eq_rdiv hd).1 hq, rdiv_neg_left hd, rdiv_one m n⟩,
    rfl, rfl, rfl⟩

/-! ### The outcomes of the common ending -/

theorem min_mul_le_max_mul (t : Ty) {d : Int} (hd : 0 < d) : t.min * d ≤ t.max * d :=
  Int.mul_le_mul_of_nonneg_right (Ty.min_le_max t) hd.le

section Conclude
variable {m : RMode} {t : Ty} {n d : Int} {z : Bool}

theorem conclude_eq_overflow_iff : conclude m t n d z = .error .overflow ↔ t.max * d < n := by
  obtain ⟨h, hr⟩ | ⟨h, -, hr⟩ | ⟨h, -, -, hr⟩ | ⟨h, -, -, hr⟩ := conclude_cases m t n d z <;> simp [hr, h]

theorem conclude_eq_negOverflow_iff (hd : 0 < d) : conclude m t n d z = .error .negOverflow ↔ n < t.min * d := by
  have hrange := min_mul_le_max_mul t hd
  obtain ⟨h, hr⟩ | ⟨-, h, hr⟩ | ⟨-, h, -, hr⟩ | ⟨-, h, -, hr⟩ := conclude_cases m t n d z
  · simpa [hr] using hrange.trans h.le
  all_goals simp [hr, h]

theorem conclude_eq_underflow_iff : conclude m t n d z = .error .underflow ↔
    t.min * d ≤ n ∧ n ≤ t.max * d ∧ n ≠ 0 ∧ rdiv m n d = 0 ∧ z = false := by
  obtain ⟨h, hr⟩ | ⟨-, h, hr⟩ | ⟨hmax, hmin, h, hr⟩ | ⟨-, -, h, hr⟩ := conclude_cases m t n d z
  · simp [hr, Int.not_le.2 h]
  · simp [hr, Int.not_le.2 h]
  · exact iff_of_true hr ⟨Int.not_lt.1 hmin, Int.not_lt.1 hmax, h⟩
  · exact iff_of_false (by simp [hr]) fun ⟨_, _, hzero⟩ => h hzero

theorem conclude_eq_value_iff {q : Int} : conclude m t n d z = .value q ↔
    t.min * d ≤ n ∧ n ≤ t.max * d ∧ ¬ (n ≠ 0 ∧ rdiv m n d = 0 ∧ z = false) ∧ q = rdiv m n d := by
  obtain ⟨h, hr⟩ | ⟨-, h, hr⟩ | ⟨-, -, h, hr⟩ | ⟨hmax, hmin, h, hr⟩ := conclude_cases m t n d z
  · simp [hr, Int.not_le.2 h]
  · simp [hr, Int.not_le.2 h]
  · exact iff_of_false (by simp [hr]) fun ⟨_, _, hnonzero, _⟩ => hnonzero h
  · rw [hr, Result.value.injEq, eq_comm]
    exact ⟨fun hq => ⟨Int.not_lt.1 hmin, Int.not_lt.1 hmax, h, hq⟩, fun ⟨_, _, _, hq⟩ => hq⟩

end Conclude

/-- `FINISH` is the common ending on the fraction with its denominator made positive (41_fixed_arith.md R142). -/
theorem finish_eq_conclude (m : RMode) (t : Ty) (n : Int) {d : Int} (hd : d ≠ 0) :
    finish m t n d = conclude m t (if d < 0 then -n else n) d.natAbs false := by
  obtain hneg | hpos := lt_or_gt_of_ne hd
  · rw [finish_of_neg m t n hneg, if_pos hneg, Int.ofNat_natAbs_of_nonpos hneg.le]
  · rw [finish_of_pos m t n hpos, if_neg hpos.not_gt, Int.natAbs_of_nonneg hpos.le]

/-- Making the denominator positive does not change the rounded quotient (41_fixed_arith.md R142). -/
theorem rdiv_natAbs (m : RMode) (n : Int) {d : Int} (hd : d ≠ 0) :
    rdiv m (if d < 0 then -n else n) d.natAbs = rdiv m n d := by
  obtain hneg | hpos := lt_or_gt_of_ne hd
  · rw [if_pos hneg, Int.ofNat_natAbs_of_nonpos hneg.le, rdiv_neg_left (neg_ne_zero.2 hd), rdiv_neg_right hd, neg_neg]
  · rw [if_neg hpos.not_gt, Int.natAbs_of_nonneg hpos.le]

/-- Settles O31: the outcomes of `conclude` on the fraction with a positive denominator. -/
theorem finishJudgesTheTrueResult : Obligations.FinishJudgesTheTrueResult := by
  rintro m t n d n' d' hd rfl rfl
  have hd' : (0 : Int) < d.natAbs := Int.natCast_pos.2 (Int.natAbs_pos.2 hd)
  rw [finish_eq_conclude m t n hd]
  refine ⟨conclude_eq_overflow_iff, conclude_eq_negOverflow_iff hd', ?underflow, fun q => ?value,
    rdiv_mem_bounds hd', fun hsigned => by rw [Ty.min_of_unsigned hsigned, zero_mul], and_congr_right fun _ => ?zero⟩
  case underflow => simp [conclude_eq_underflow_iff]
  case value => simp [conclude_eq_value_iff, imp_iff_not_or]
  case zero =>
    cases m with
    | halfUp => rw [rdiv_halfUp_eq_zero_iff hd'.ne', Int.natAbs_natCast]; omega
    | down => rw [rdiv_down_eq_zero_iff hd'.ne', Int.natAbs_natCast, Nat.cast_lt]

end Sys2Proof.Machine
end

section
/-! PROOFS. ADD, SUB, MUL, DIV, MOD and FMD (41_fixed_arith.md R143 to R150): the response of each, in all four types,
and the laws that hold between them. -/
namespace Sys2Proof.Machine

/-! ### From the response of an operation to the next state -/

/-- An instruction accepts the response of the operation and type it is assembled from (30_encoding.md R64). -/
theorem exec_of_assemble {op : Op} {t : Ty} {a b c : Port} {i : Instr} (h : assemble op t a b c = .ok i) (s : State) :
    exec i s = accept s (answer Config.unit op t a b c) := by
  revert h
  cases op <;> cases t <;> rintro ⟨⟩ <;> rfl

theorem answersSome_of_assemble {op : Op} {t : Ty} {a b c : Port} {i : Instr} {s : State} {P : Response → Prop}
    (h : assemble op t a b c = .ok i) (hslot : s.slot = .idle) (hP : P (answer Config.unit op t a b c)) :
    AnswersSome i s P :=
  ⟨_, hP, by rw [Answers, exec_of_assemble h, accept_idle s hslot]⟩

/-- What the rule of an operation answers in every type, the operation's four instructions answer, and their command
words are those of R70. -/
theorem answersInEachType_of_answer (op : Op) {ws : List CommandWord} {a b c : Port} {iu64 i64 iu128 i128 : Instr}
    {s : State} {P : Ty → Response → Prop} (hslot : s.slot = .idle)
    (hws : [commandWord op .uf64, commandWord op .f64, commandWord op .uf128, commandWord op .f128] = ws)
    (hu64 : assemble op .uf64 a b c = .ok iu64) (h64 : assemble op .f64 a b c = .ok i64)
    (hu128 : assemble op .uf128 a b c = .ok iu128) (h128 : assemble op .f128 a b c = .ok i128)
    (hP : ∀ t, P t (answer Config.unit op t a b c)) :
    commandsOf [iu64, i64, iu128, i128] = ws ∧ AnswersInEachType iu64 i64 iu128 i128 s P := by
  refine ⟨?words, answersSome_of_assemble hu64 hslot (hP _), answersSome_of_assemble h64 hslot (hP _),
    answersSome_of_assemble hu128 hslot (hP _), answersSome_of_assemble h128 hslot (hP _)⟩
  case words =>
    simp [commandsOf, ← hws, encode_of_assemble hu64, encode_of_assemble h64, encode_of_assemble hu128,
      encode_of_assemble h128]

/-! ### The responses of `FINISH` -/

/-- The underflow test of `conclude` in this unit: a fraction that rounds to zero is below one half (41_fixed_arith.md
R142). -/
theorem underflow_test_iff {n d : Int} (hd : 0 < d) (z : Bool) :
    (n ≠ 0 ∧ rdiv .halfUp n d = 0 ∧ z = false) ↔ (n ≠ 0 ∧ 2 * (n.natAbs : Int) < d ∧ z = false) := by
  have hsmall : rdiv .halfUp n d = 0 ↔ 2 * (n.natAbs : Int) < d := by
    rw [rdiv_halfUp_eq_zero_iff hd.ne']
    omega
  rw [hsmall]

/-- The common ending answers what `Concluded` asks for (41_fixed_arith.md R142). -/
theorem concluded_respond_conclude (t : Ty) (n : Int) {d : Int} (hd : 0 < d) (z : Bool) :
    Concluded t n d z (respond Config.unit t (conclude .halfUp t n d z)) := by
  unfold Concluded
  obtain ⟨hmax, hr⟩ | ⟨hmax, hmin, hr⟩ | ⟨hmax, hmin, hzero, hr⟩ | ⟨hmax, hmin, hzero, hr⟩ :=
    conclude_cases .halfUp t n d z
  · rw [if_pos hmax, hr]
    rfl
  · rw [if_neg hmax, if_pos hmin, hr]
    rfl
  · rw [if_neg hmax, if_neg hmin, if_pos ((underflow_test_iff hd z).1 hzero), hr]
    rfl
  · rw [if_neg hmax, if_neg hmin, if_neg (mt (underflow_test_iff hd z).2 hzero), hr]
    exact ⟨_, roundsTo_rdiv .halfUp n hd.ne', rfl⟩

/-- `FINISH` answers what `Finished` asks for (41_fixed_arith.md R142). -/
theorem finished_respond_finish (t : Ty) (n : Int) {d : Int} (hd : d ≠ 0) :
    Finished t n d (respond Config.unit t (finish .halfUp t n d)) := by
  unfold Finished
  obtain hneg | hpos := lt_or_gt_of_ne hd
  · rw [if_pos hneg, finish_of_neg _ t n hneg]
    exact concluded_respond_conclude t (-n) (Int.neg_pos_of_neg hneg) false
  · rw [if_neg hpos.not_gt, finish_of_pos _ t n hpos]
    exact concluded_respond_conclude t n hpos false

/-- A zero divisor is tested before `FINISH` (41_fixed_arith.md R146, R148). -/
theorem divByZero_or_finished (t : Ty) (n d : Int) :
    if d = 0 then
      respond Config.unit t (if d = 0 then .error .divByZero else finish .halfUp t n d) = errorResponse .divByZero
    else Finished t n d (respond Config.unit t (if d = 0 then .error .divByZero else finish .halfUp t n d)) := by
  by_cases hd : d = 0
  · rw [if_pos hd, if_pos hd]
    rfl
  · rw [if_neg hd, if_neg hd]
    exact finished_respond_finish t n hd

/-- Over the denominator 1 there is nothing to round (41_fixed_arith.md R143, R144). -/
theorem finish_one (m : RMode) (t : Ty) (n : Int) : finish m t n 1 =
    if t.max < n then .error .overflow else if n < t.min then .error .negOverflow else .value n := by
  simp [finish_of_pos, conclude]

theorem respond_finish_one (m : RMode) (t : Ty) (n : Int) : respond Config.unit t (finish m t n 1) =
    if t.max < n then errorResponse .overflow
    else if n < t.min then errorResponse .negOverflow
    else okResponse t n := by
  rw [finish_one, apply_ite (respond Config.unit t), apply_ite (respond Config.unit t)]
  rfl

/-! ### Truncating division -/

/-- Division of `Int` that drops the fraction is `RDIV` under DOWN (41_fixed_arith.md R141, R147). -/
theorem rdiv_down_eq_tdiv (n : Int) {d : Int} (hd : d ≠ 0) : rdiv .down n d = n.tdiv d := by
  have hnat : ∀ a : Nat, rdiv .down a d = (a : Int).tdiv d := by
    intro a
    obtain ⟨b, rfl | rfl⟩ := d.eq_nat_or_neg
    · rfl
    · rw [rdiv_neg_right (by omega), Int.tdiv_neg]
      rfl
  obtain ⟨a, rfl | rfl⟩ := n.eq_nat_or_neg
  · exact hnat a
  · rw [rdiv_neg_left hd, Int.neg_tdiv, hnat]

theorem towardZero_tdiv (n : Int) {d : Int} (hd : d ≠ 0) : TowardZero n d (n.tdiv d) :=
  rdiv_down_eq_tdiv n hd ▸ roundsTo_rdiv .down n hd

theorem modResult_of_ne_zero (x : Int) {y : Int} (hy : y ≠ 0) : modResult x y = .value (x.tmod y) := by
  rw [modResult, if_neg hy, Int.tmod_def]

theorem tmod_eq_zero_or_sign_eq (x y : Int) : x.tmod y = 0 ∨ (x.tmod y).sign = x.sign := by
  by_cases hdvd : y ∣ x
  · exact .inl (Int.tmod_eq_zero_of_dvd hdvd)
  · exact .inr (by rw [Int.sign_tmod, if_neg hdvd])

/-- The remainder lies between 0 and the dividend, so in the range of the type (41_fixed_arith.md R147). -/
theorem tmod_mem_range {t : Ty} {x : Int} (hx : t.min ≤ x ∧ x ≤ t.max) (y : Int) :
    t.min ≤ x.tmod y ∧ x.tmod y ≤ t.max := by
  have hmin := t.min_nonpos
  have hmax := t.max_nonneg
  have hle : (x.tmod y).natAbs ≤ x.natAbs := by
    rw [Int.natAbs_tmod]
    exact Nat.mod_le _ _
  obtain hpos | hneg := le_total 0 x
  · have hr := Int.tmod_nonneg y hpos
    omega
  · have hr := Int.tmod_nonneg y (neg_nonneg.2 hneg)
    rw [Int.neg_tmod] at hr
    omega

/-! ### The six operations -/

/-- Settles O23: ADD is `FINISH` of the sum over 1. -/
theorem addAnswersTheExactSum : Obligations.AddAnswersTheExactSum :=
  fun _ _ _ _ hslot => answersInEachType_of_answer .add hslot (by decide) rfl rfl rfl rfl fun t =>
    respond_finish_one _ t _

/-- Settles O24: SUB is `FINISH` of the difference over 1. -/
theorem subAnswersTheExactDifference : Obligations.SubAnswersTheExactDifference :=
  fun _ _ _ _ hslot => answersInEachType_of_answer .sub hslot (by decide) rfl rfl rfl rfl fun t =>
    respond_finish_one _ t _

/-- Settles O25: MUL is the common ending of the product over the scale, which is positive. -/
theorem mulAnswersTheRoundedProduct : Obligations.MulAnswersTheRoundedProduct := by
  refine fun a b c s hslot => answersInEachType_of_answer .mul hslot (by decide) rfl rfl rfl rfl fun t => ?_
  rw [answer, respondMul, mulResult, finish_of_pos _ t _ (Ty.scale_pos t)]
  exact concluded_respond_conclude t _ (Ty.scale_pos t) false

/-- Settles O26, by `divByZero_or_finished` for the rescaled dividend. -/
theorem divAnswersTheRoundedQuotient : Obligations.DivAnswersTheRoundedQuotient :=
  fun _ _ _ _ hslot => answersInEachType_of_answer .div hslot (by decide) rfl rfl rfl rfl fun t =>
    divByZero_or_finished t _ _

/-- Settles O27: the remainder is that of `Int.tmod`, and what is claimed of it holds of `Int.tmod`. -/
theorem modAnswersTheTruncatedRemainder : Obligations.ModAnswersTheTruncatedRemainder := by
  refine fun a b c s hslot => answersInEachType_of_answer .mod hslot (by decide) rfl rfl rfl rfl fun t => ?_
  rw [answer, respondMod]
  by_cases hb : operand t b = 0
  · rw [if_pos hb, modResult, if_pos hb]
    rfl
  · have hsmall : ((operand t a).tmod (operand t b)).natAbs < (operand t b).natAbs := by
      rw [Int.natAbs_tmod]
      exact Nat.mod_lt _ (Int.natAbs_pos.2 hb)
    obtain ⟨hlow, hhigh⟩ := tmod_mem_range (operand_bounds t a) (operand t b)
    rw [if_neg hb, modResult_of_ne_zero _ hb]
    exact ⟨_, _, towardZero_tdiv _ hb, Int.tmod_def _ _, hsmall, tmod_eq_zero_or_sign_eq _ _, hlow, hhigh, rfl⟩

/-- Settles O28, by `divByZero_or_finished` for the exact product. -/
theorem fmdAnswersTheOnceRoundedQuotient : Obligations.FmdAnswersTheOnceRoundedQuotient :=
  fun _ _ _ _ hslot => answersInEachType_of_answer .fmd hslot (by decide) rfl rfl rfl rfl fun t =>
    divByZero_or_finished t _ _

/-! ### The laws -/

/-- An OK result of `FINISH` is the rounded true result, and it is zero only when that is zero (41_fixed_arith.md
R150 (d)). -/
theorem finish_eq_value {m : RMode} {t : Ty} {n d q : Int} (hd : d ≠ 0) (h : finish m t n d = .value q) :
    q = rdiv m n d ∧ (q = 0 ↔ n = 0) := by
  rw [finish_eq_conclude m t n hd, conclude_eq_value_iff, rdiv_natAbs m n hd] at h
  obtain ⟨-, -, hnonzero, rfl⟩ := h
  refine ⟨rfl, fun hq => ?_, fun hn => ?_⟩
  · by_contra hn
    refine hnonzero ⟨?_, hq, rfl⟩
    split
    · exact neg_ne_zero.2 hn
    · exact hn
  · rw [hn, rdiv_eq_sign_mul m 0 hd, Int.sign_zero, zero_mul, zero_mul]

/-- Settles O32, law by law. -/
theorem lawsOfTheExactOperations : Obligations.LawsOfTheExactOperations := by
  intro m t x y z _ _ _ _
  refine ⟨by rw [addResult, addResult, add_comm], by rw [mulResult, mulResult, mul_comm], ?overflow, ?self, if_pos rfl,
    ?value, ?mod, if_neg (Ty.scale_pos t).ne', rfl⟩
  case overflow => rw [addResult, finish_of_pos m t _ one_pos, conclude_eq_overflow_iff, mul_one]
  case self =>
    rw [subResult, sub_self, finish_one, if_neg t.max_nonneg.not_gt, if_neg t.min_nonpos.not_gt]
  case value =>
    intro n d q hd hq
    obtain ⟨rfl, hzero⟩ := finish_eq_value hd hq
    exact ⟨roundsTo_rdiv m n hd, hzero, mul_rdiv_nonneg hd⟩
  case mod =>
    exact fun hy => ⟨_, _, modResult_of_ne_zero x hy, towardZero_tdiv x hy, (Int.mul_tdiv_add_tmod x y).symm⟩

end Sys2Proof.Machine
end

section
/-! PROOFS. fix192 values (42_fix192_poly.md R170 to R180): storage and widening, the operations against the limb
primitives, the polynomial evaluator, and narrowing. -/
namespace Sys2Proof.Machine

/-! ### Storage and widening -/

/-- The upper 64 and lower 128 bits of a pattern, joined, are its signed value (42_fix192_poly.md R171). -/
theorem fix192Join_extract (p : BitVec 192) : fix192Join (p.extractLsb' 128 64) (p.extractLsb' 0 128) = p.toInt := by
  have hp := p.isLt
  have hhi : (p.extractLsb' 128 64).toNat = p.toNat / 2 ^ 128 % 2 ^ 64 := by
    rw [BitVec.extractLsb'_toNat, Nat.shiftRight_eq_div_pow]
  have hlo : (p.extractLsb' 0 128).toNat = p.toNat % 2 ^ 128 := by
    rw [BitVec.extractLsb'_toNat, Nat.shiftRight_zero]
  rw [fix192Join, BitVec.toInt_eq_toNat_cond, BitVec.toInt_eq_toNat_cond, hhi, hlo]
  split <;> split <;> omega

/-- The pattern of a fix192 raw reads back as the raw (42_fix192_poly.md R170). -/
theorem toInt_ofInt_fix192 {x : Int} (hlow : fix192Min ≤ x) (hhigh : x ≤ fix192Max) :
    (BitVec.ofInt 192 x).toInt = x := by
  unfold fix192Min at hlow
  unfold fix192Max at hhigh
  exact BitVec.toInt_ofInt_eq_self (by decide) (by omega) (by omega)

theorem unit192_mul_scale (t : Ty) : t.unit192 * t.scale = s192 := by cases t <;> decide

/-- Widening is monotone, so the extreme raws decide (42_fix192_poly.md R172). -/
theorem widen_mem_range {t : Ty} {v : Int} (ht : t ≠ .uf128) (hlow : t.min ≤ v) (hhigh : v ≤ t.max) :
    fix192Min ≤ widen t v ∧ widen t v ≤ fix192Max := by
  have hmin : fix192Min ≤ widen t t.min := by revert ht; cases t <;> decide
  have hmax : widen t t.max ≤ fix192Max := by revert ht; cases t <;> decide
  have hpos := (Ty.unit192_pos t).le
  exact ⟨hmin.trans (Int.mul_le_mul_of_nonneg_right hlow hpos),
    (Int.mul_le_mul_of_nonneg_right hhigh hpos).trans hmax⟩

/-- Settles O33, part by part. -/
theorem splitAndWidenAreExact : Obligations.SplitAndWidenAreExact := by
  refine ⟨fun x hlow hhigh => ?split, fun t v => ?exact, fun _ _ => widen_mem_range, by decide⟩
  case split => rw [fix192Hi, fix192Lo, fix192Join_extract, toInt_ofInt_fix192 hlow hhigh]
  case exact => rw [widen, mul_assoc, unit192_mul_scale]

/-! ### The operations and the limb primitives -/

theorem isFix192_iff {z : Int} : isFix192 z = true ↔ fix192Min ≤ z ∧ z ≤ fix192Max := by simp [isFix192]

/-- An integer is a fix192 raw exactly when it does not overflow 192 signed bits (42_fix192_poly.md R173). -/
theorem overflowDirection_192_eq_zero_iff (z : Int) : overflowDirection 192 z = 0 ↔ isFix192 z = true := by
  rw [isFix192_iff, fix192Min, fix192Max]
  obtain ⟨hz, hd⟩ | ⟨hz, hd⟩ | ⟨hhigh, hlow, hd⟩ := overflowDirection_cases 192 z <;> omega

/-- The overflow signal is the overflow output of a 192-bit primitive, and without it the pattern is exact
(42_fix192_poly.md R173, R174). -/
theorem fit192_eq_of_overflowDirection (z : Int) :
    fit192 z = if overflowDirection 192 z = 0 then some (BitVec.ofInt 192 z).toInt else none := by
  rw [fit192, if_congr (overflowDirection_192_eq_zero_iff z) rfl rfl]
  split
  next h =>
    obtain ⟨hlow, hhigh⟩ := isFix192_iff.1 h
    rw [toInt_ofInt_fix192 hlow hhigh]
  next => rfl

theorem f192Add_eq_addSLimbs (x y : BitVec 192) :
    f192Add x.toInt y.toInt = if (addSLimbs x y).2 = 0 then some (addSLimbs x y).1.toInt else none := by
  have hlimbs : addSLimbs x y = addS x y := addSLimbs_eq_addS (n := 3) x y
  rw [hlimbs]
  exact fit192_eq_of_overflowDirection _

theorem f192Sub_eq_subSLimbs (x y : BitVec 192) :
    f192Sub x.toInt y.toInt = if (subSLimbs x y).2 = 0 then some (subSLimbs x y).1.toInt else none := by
  have hlimbs : subSLimbs x y = subS x y := subSLimbs_eq_subS (n := 3) x y
  rw [hlimbs]
  exact fit192_eq_of_overflowDirection _

/-- The shifted product of the limb primitives is the floor of the exact product over `2^K` (42_fix192_poly.md
R175). -/
theorem sar_mulS_toInt (x y : BitVec 192) (k : Nat) :
    (sar (mulS x y) k).toInt = x.toInt * y.toInt / ((2 ^ k : Nat) : Int) := by
  rw [sar_toInt _ (by decide), mulS_toInt, Nat.cast_pow, Nat.cast_two]

/-- Settles O34, operation by operation. -/
theorem fix192ArithmeticIsLimbArithmetic : Obligations.Fix192ArithmeticIsLimbArithmetic := fun x y k _ _ =>
  ⟨f192Add_eq_addSLimbs x y, f192Sub_eq_subSLimbs x y, by rw [sar_mulS_toInt, f192MulSh, fit192], sar_mulS_toInt x y k⟩

/-! ### The polynomial evaluator -/

/-- The Horner loop goes on while the shifted product and the sum are fix192 raws (42_fix192_poly.md R176, R180). -/
theorem horner_cons (k : Nat) (x acc c : Int) (cs : List Int) :
    horner k x acc (c :: cs) =
      if isFix192 (acc * x / ((2 ^ k : Nat) : Int)) ∧ isFix192 (acc * x / ((2 ^ k : Nat) : Int) + c) then
        horner k x (acc * x / ((2 ^ k : Nat) : Int) + c) cs
      else none := by
  rw [horner, f192MulSh, fit192]
  cases isFix192 (acc * x / ((2 ^ k : Nat) : Int)) with
  | false => simp
  | true =>
    simp only [if_true, true_and, f192Add, fit192]
    cases isFix192 (acc * x / ((2 ^ k : Nat) : Int) + c) <;> rfl

theorem horner_eq_hornerTrace (k : Nat) (x acc : Int) (cs : List Int) :
    horner k x acc cs =
      if (hornerTrace k x acc cs).all isFix192 then some ((hornerTrace k x acc cs).getLastD acc) else none := by
  induction cs generalizing acc with
  | nil => rfl
  | cons c cs ih =>
    rw [horner_cons, ih, hornerTrace, List.all_cons, List.all_cons, List.getLastD_cons, List.getLastD_cons]
    simp only [Bool.and_eq_true, ← ite_and, and_assoc]

/-- Settles O35, by the Horner loop. -/
theorem polyIsHornerWithinRange : Obligations.PolyIsHornerWithinRange := fun k c cs x => horner_eq_hornerTrace k x c cs

/-! ### Narrowing -/

/-- A zero among the values of the common ending is a true zero or one its caller allows (42_fix192_poly.md R177). -/
theorem conclude_eq_value_iff_roundsTo {m : RMode} {t : Ty} {n d q : Int} {z : Bool} (hd : d ≠ 0) :
    conclude m t n d z = .value q ↔
      t.min * d ≤ n ∧ n ≤ t.max * d ∧ RoundsTo m n d q ∧ (q = 0 → n = 0 ∨ z = true) := by
  rw [conclude_eq_value_iff, roundsTo_iff_eq_rdiv hd]
  refine and_congr_right fun _ => and_congr_right fun _ => ?_
  rw [and_comm]
  refine and_congr_right fun hq => ?_
  rw [← hq]
  cases z with
  | true => simp
  | false => simpa using not_imp_not

/-- Settles O36: narrowing is the common ending over the positive denominator `D`. -/
theorem narrowJudgesTheComputedValue : Obligations.NarrowJudgesTheComputedValue := by
  refine ⟨by decide, by decide, by decide, by decide, fun m t r z => ?_⟩
  have hd := Ty.unit192_pos t
  refine ⟨conclude_eq_overflow_iff, conclude_eq_negOverflow_iff hd, ?underflow,
    fun q => conclude_eq_value_iff_roundsTo hd.ne', fun q hq => ?range⟩
  case underflow => rw [narrow, conclude_eq_underflow_iff, roundsTo_iff_eq_rdiv hd.ne', eq_comm (a := (0 : Int))]
  case range =>
    obtain ⟨hmin, hmax, -, rfl⟩ := conclude_eq_value_iff.1 hq
    exact rdiv_mem_bounds hd hmin hmax

end Sys2Proof.Machine
end

section
/-! PROOFS. The range reductions of EXP and LN (42_fix192_poly.md R190 to R192), over every table that meets the
structural requirements (20_memory.md R45). -/
namespace Sys2Proof.Machine

/-! ### What the check of a table asks for -/

theorem Tab.wf_iff {tab : Tab} : tab.wf = true ↔
    tab.kOk = true ∧ tab.coefsOk = true ∧ tab.boundsOk = true ∧ tab.expTabOk = true ∧ tab.thresholdsOk .f64 = true ∧
      tab.thresholdsOk .f128 = true ∧ tab.anglesOk = true ∧ tab.tanMaxOk .f64 = true ∧ tab.tanMaxOk .f128 = true := by
  simp [Tab.wf, and_assoc]

/-- The floors of the thresholds have entries in `EXP_TAB` (20_memory.md R45 (b), (c)). -/
theorem Tab.thresholds_of_wf {tab : Tab} {t : Ty} (h : tab.wf = true) (ht : t.signed = true) :
    tab.kMin ≤ tab.minLnRaw t / t.scale ∧ tab.maxLnRaw t / t.scale ≤ tab.kMax := by
  obtain ⟨-, -, -, -, h64, h128, -⟩ := Tab.wf_iff.1 h
  have hok : tab.thresholdsOk t = true := by
    cases t with
    | uf64 => cases ht
    | f64 => exact h64
    | uf128 => cases ht
    | f128 => exact h128
  simp only [Tab.thresholdsOk, Bool.and_eq_true, decide_eq_true_eq] at hok
  obtain ⟨⟨-, hmin⟩, hmax⟩ := hok
  exact ⟨hmin, hmax⟩

/-- `EXP_TAB` has one entry for each exponent (20_memory.md R44). -/
theorem Tab.expTab_length_of_wf {tab : Tab} (h : tab.wf = true) :
    (tab.expTab.length : Int) = tab.kMax - tab.kMin + 1 := by
  obtain ⟨-, -, -, hok, -⟩ := Tab.wf_iff.1 h
  simp only [Tab.expTabOk, Bool.and_eq_true, decide_eq_true_eq] at hok
  obtain ⟨⟨-, hlength⟩, -⟩ := hok
  exact hlength

/-- `LN_BOUNDS` rises from `S192` to `2·S192` in 16 steps (20_memory.md R45 (a)). -/
theorem Tab.lnBounds_of_wf {tab : Tab} (h : tab.wf = true) :
    tab.lnBounds.length = 17 ∧ tab.lnBounds.getD 0 0 = s192 ∧ tab.lnBounds.getD 16 0 = 2 * s192 ∧
      strictlyRising tab.lnBounds = true := by
  obtain ⟨-, -, hok, -⟩ := Tab.wf_iff.1 h
  simp only [Tab.boundsOk, Bool.and_eq_true, decide_eq_true_eq] at hok
  obtain ⟨⟨⟨⟨hlength, hfirst⟩, hlast⟩, hrising⟩, -⟩ := hok
  exact ⟨hlength, hfirst, hlast, hrising⟩

/-- Each of the 16 sub-ranges has a polynomial (20_memory.md R44, R45 (e)). -/
theorem Tab.lnCoef_of_wf {tab : Tab} (h : tab.wf = true) : tab.lnCoef.length = 16 ∧ ∀ cs ∈ tab.lnCoef, cs ≠ [] := by
  obtain ⟨-, hok, -⟩ := Tab.wf_iff.1 h
  simp only [Tab.coefsOk, Bool.and_eq_true, decide_eq_true_eq, List.all_eq_true, coefOk, Bool.not_eq_true',
    List.isEmpty_eq_false_iff] at hok
  obtain ⟨⟨⟨-, hlength⟩, hcoef⟩, -⟩ := hok
  exact ⟨hlength, fun cs hcs => (hcoef cs hcs).1⟩

/-! ### EXPSPLIT -/

theorem expFraction_eq_widen_emod (t : Ty) (a : Int) : expFraction t a = widen t (a % t.scale) := by
  rw [expFraction, expWhole, Int.emod_def, mul_comm]

/-- A fraction in [0, 1) stays one when it is widened (42_fix192_poly.md R190). -/
theorem widen_fraction_bounds {t : Ty} {f : Int} (hlow : 0 ≤ f) (hhigh : f < t.scale) :
    0 ≤ widen t f ∧ widen t f < s192 :=
  ⟨Int.mul_nonneg hlow (Ty.unit192_pos t).le, widen_one t ▸ Int.mul_lt_mul_of_pos_right hhigh (Ty.unit192_pos t)⟩

/-- Settles O37: floor and remainder by the scale, and the floor is monotone between the thresholds. -/
theorem expSplitIsFloorAndFraction : Obligations.ExpSplitIsFloorAndFraction := by
  refine ⟨fun tab t a hwf ht hlow hhigh => ?_, by decide, by decide, by decide⟩
  have hscale := Ty.scale_pos t
  have hf := Int.emod_nonneg a hscale.ne'
  have hf' := Int.emod_lt_of_pos a hscale
  obtain ⟨hmin, hmax⟩ := Tab.thresholds_of_wf hwf ht
  have hk : tab.kMin ≤ expWhole t a := hmin.trans (Int.ediv_le_ediv hscale hlow)
  have hk' : expWhole t a ≤ tab.kMax := (Int.ediv_le_ediv hscale hhigh).trans hmax
  have hlength := Tab.expTab_length_of_wf hwf
  obtain ⟨hwide, hwide'⟩ := widen_fraction_bounds hf hf'
  rw [expFraction_eq_widen_emod]
  exact ⟨a % t.scale, (Int.ediv_mul_add_emod a t.scale).symm, hf, hf', rfl, hwide, hwide', hk, hk', by omega⟩

/-! ### LNNORM -/

section NormalisedBy
variable {n e e' m m' : Int}

/-- `NormalisedBy` as one inequality for exponents of either sign (42_fix192_poly.md R191). -/
theorem NormalisedBy.zpow_bounds (h : NormalisedBy n e m) :
    (s192 : ℚ) * 2 ^ e ≤ n ∧ (n : ℚ) < s192 * 2 ^ (e + 1) ∧ m = ⌊(n : ℚ) / 2 ^ e⌋ := by
  obtain ⟨k, rfl, hlow, hhigh, rfl⟩ | ⟨k, -, rfl, hlow, hhigh, rfl⟩ := h
  · refine ⟨by exact_mod_cast hlow, by exact_mod_cast hhigh, ?_⟩
    rw [← Rat.floor_intCast_div_natCast, zpow_natCast, Nat.cast_pow, Nat.cast_two]
  · have hpos : (0 : ℚ) < 2 ^ k := by positivity
    rw [zpow_add₀ two_ne_zero, zpow_one, zpow_neg, zpow_natCast, div_inv_eq_mul]
    refine ⟨?_, ?_, ?_⟩
    · rw [mul_inv_le_iff₀ hpos]
      exact_mod_cast hlow
    · have hdiv : (s192 : ℚ) * ((2 ^ k)⁻¹ * 2) = 2 * s192 / 2 ^ k := by ring
      rw [hdiv, lt_div_iff₀ hpos]
      exact_mod_cast hhigh
    · exact_mod_cast (Int.floor_intCast (R := ℚ) (n * ((2 ^ k : Nat) : Int))).symm

theorem s192_cast_pos : (0 : ℚ) < s192 := by exact_mod_cast (by decide : 0 < s192)

/-- A power of two that the operand reaches is at most that of its exponent. -/
theorem NormalisedBy.le_exponent (h : NormalisedBy n e m) {l : Int} (hl : (s192 : ℚ) * 2 ^ l ≤ n) : l ≤ e := by
  obtain ⟨-, hhigh, -⟩ := h.zpow_bounds
  have hpow := lt_of_mul_lt_mul_left (hl.trans_lt hhigh) s192_cast_pos.le
  exact Int.lt_add_one_iff.1 ((zpow_lt_zpow_iff_right₀ one_lt_two).1 hpow)

/-- A power of two that the operand does not reach is above that of its exponent. -/
theorem NormalisedBy.exponent_lt (h : NormalisedBy n e m) {u : Int} (hu : (n : ℚ) < s192 * 2 ^ u) : e < u := by
  obtain ⟨hlow, -, -⟩ := h.zpow_bounds
  have hpow := lt_of_mul_lt_mul_left (hlow.trans_lt hu) s192_cast_pos.le
  exact (zpow_lt_zpow_iff_right₀ one_lt_two).1 hpow

/-- The exponent is unique, and it determines the mantissa (42_fix192_poly.md R191). -/
theorem NormalisedBy.unique (h : NormalisedBy n e m) (h' : NormalisedBy n e' m') : e = e' ∧ m = m' := by
  obtain ⟨hlow, -, hm⟩ := h.zpow_bounds
  obtain ⟨hlow', -, hm'⟩ := h'.zpow_bounds
  obtain rfl : e = e' := le_antisymm (h'.le_exponent hlow) (h.le_exponent hlow')
  exact ⟨rfl, hm.trans hm'.symm⟩

/-- The mantissa lies in [1, 2) (42_fix192_poly.md R191). -/
theorem NormalisedBy.mantissa_bounds (h : NormalisedBy n e m) : s192 ≤ m ∧ m < 2 * s192 := by
  obtain ⟨k, -, hlow, hhigh, rfl⟩ | ⟨k, -, -, hlow, hhigh, rfl⟩ := h
  · have hpos : (0 : Int) < ((2 ^ k : Nat) : Int) := Int.natCast_pos.2 (Nat.two_pow_pos k)
    refine ⟨(Int.le_ediv_iff_mul_le hpos).2 hlow, (Int.ediv_lt_iff_lt_mul hpos).2 ?_⟩
    rw [pow_succ, Nat.cast_mul, ← mul_assoc] at hhigh
    rw [mul_assoc]
    omega
  · exact ⟨hlow, hhigh⟩

/-- An upper bound on the exponent from one on the operand. -/
theorem NormalisedBy.exponent_le (h : NormalisedBy n e m) {u : Nat} (hu : n < s192 * 2 ^ (u + 1)) : e ≤ u :=
  Int.lt_add_one_iff.1 (h.exponent_lt (by exact_mod_cast hu))

/-- A lower bound on the exponent from one on the operand. -/
theorem NormalisedBy.neg_le_exponent (h : NormalisedBy n e m) {l : Nat} (hl : s192 ≤ n * 2 ^ l) : -(l : Int) ≤ e := by
  refine h.le_exponent ?_
  rw [zpow_neg, zpow_natCast, mul_inv_le_iff₀ (by positivity)]
  exact_mod_cast hl

end NormalisedBy

section Loops
variable {fuel n : Nat}

/-- Halving ends below `2·S192` when the fuel suffices, and not too low (42_fix192_poly.md R191). -/
theorem halvings_bounds (hlow : s192.toNat ≤ n) (hhigh : n < s192.toNat * 2 ^ (fuel + 1)) :
    s192.toNat * 2 ^ halvings fuel n ≤ n ∧ n < s192.toNat * 2 ^ (halvings fuel n + 1) := by
  induction fuel generalizing n with
  | zero => exact ⟨by rwa [halvings, pow_zero, mul_one], hhigh⟩
  | succ fuel ih =>
    rw [halvings]
    split
    next h =>
      rw [pow_succ, ← mul_assoc] at hhigh
      obtain ⟨hlow', hhigh'⟩ := ih (n := n / 2) (by omega) (by omega)
      have hdouble (k : Nat) : s192.toNat * 2 ^ (k + 1) = 2 * (s192.toNat * 2 ^ k) := by ring
      have hhalf := hdouble (halvings fuel (n / 2))
      have hhalf' := hdouble (halvings fuel (n / 2) + 1)
      omega
    next h => exact ⟨by rwa [pow_zero, mul_one], by rw [zero_add, pow_one]; omega⟩

/-- Doubling ends at or above `S192` when the fuel suffices, and not too high (42_fix192_poly.md R191). -/
theorem doublings_bounds (hlow : s192.toNat ≤ n * 2 ^ fuel) (hhigh : n < 2 * s192.toNat) :
    s192.toNat ≤ n * 2 ^ doublings fuel n ∧ n * 2 ^ doublings fuel n < 2 * s192.toNat := by
  induction fuel generalizing n with
  | zero => exact ⟨hlow, by rwa [doublings, pow_zero, mul_one]⟩
  | succ fuel ih =>
    rw [doublings]
    split
    next h =>
      have hdouble (k : Nat) : n * 2 ^ (k + 1) = 2 * n * 2 ^ k := by ring
      rw [hdouble] at hlow ⊢
      exact ih hlow (by omega)
    next h =>
      rw [pow_zero, mul_one]
      exact ⟨Nat.not_lt.1 h, hhigh⟩

end Loops

/-- `LNNORM` normalises every operand that its 48 halvings or 80 doublings reach (42_fix192_poly.md R191). -/
theorem lnNorm_normalisedBy {t : Ty} {a : Int} (hlow : s192 ≤ widen t a * 2 ^ 80) (hhigh : widen t a < s192 * 2 ^ 49) :
    NormalisedBy (widen t a) (lnNorm t a).1 (lnNorm t a).2 := by
  have hs : s192 = (s192.toNat : Int) := by decide
  obtain ⟨n, hn⟩ : ∃ n : Nat, widen t a = n := Int.eq_ofNat_of_zero_le (by omega)
  rw [lnNorm, hn, Int.toNat_natCast]
  rw [hn, hs] at hlow hhigh
  by_cases h : s192.toNat ≤ n
  · obtain ⟨hlow', hhigh'⟩ := halvings_bounds (fuel := 48) h (by exact_mod_cast hhigh)
    rw [if_pos h]
    refine .inl ⟨halvings 48 n, rfl, ?_, ?_, Int.natCast_div _ _⟩
    · rw [hs]
      exact_mod_cast hlow'
    · rw [hs]
      exact_mod_cast hhigh'
  · obtain ⟨hlow', hhigh'⟩ := doublings_bounds (n := n) (fuel := 80) (by exact_mod_cast hlow) (by omega)
    have hpos : 0 < doublings 80 n := by
      by_contra hzero
      rw [Nat.eq_zero_of_not_pos hzero, pow_zero, mul_one] at hlow'
      exact h hlow'
    rw [if_neg h]
    refine .inr ⟨doublings 80 n, hpos, rfl, ?_, ?_, Nat.cast_mul _ _⟩
    · rw [hs]
      exact_mod_cast hlow'
    · rw [hs]
      exact_mod_cast hhigh'

/-- A positive operand lies between one unit and the greatest raw of its type, widened (42_fix192_poly.md R172). -/
theorem widen_pos_bounds {t : Ty} {a : Int} (hpos : 0 < a) (hmax : a ≤ t.max) :
    t.unit192 ≤ widen t a ∧ widen t a ≤ t.max * t.unit192 :=
  ⟨le_mul_of_one_le_left (Ty.unit192_pos t).le hpos, Int.mul_le_mul_of_nonneg_right hmax (Ty.unit192_pos t).le⟩

/-- One unit needs at most 80 doublings and the greatest raw at most 48 halvings (42_fix192_poly.md R191). -/
theorem unit192_reach (t : Ty) : s192 ≤ t.unit192 * 2 ^ 80 ∧ t.max * t.unit192 < s192 * 2 ^ (48 + 1) := by
  cases t <;> decide

/-- The same for UF64, with 27 doublings and 37 halvings (42_fix192_poly.md R191). -/
theorem unit192_uf64_reach :
    s192 ≤ Ty.uf64.unit192 * 2 ^ 27 ∧ Ty.uf64.max * Ty.uf64.unit192 < s192 * 2 ^ (37 + 1) := by decide

/-- Settles O38: the exponent that `LNNORM` finds is the unique one, so its ranges are those of the operand. -/
theorem lnNormFindsTheMantissa : Obligations.LnNormFindsTheMantissa := by
  refine ⟨fun t a _ hpos hmax => ?_, by decide, by decide, by decide, by decide, by decide⟩
  obtain ⟨hunit, htop⟩ := widen_pos_bounds hpos hmax
  obtain ⟨hreach, hreach'⟩ := unit192_reach t
  have hlow : s192 ≤ widen t a * 2 ^ 80 := by omega
  have hhigh : widen t a < s192 * 2 ^ (48 + 1) := by omega
  have hnorm := lnNorm_normalisedBy hlow hhigh
  obtain ⟨hm, hm'⟩ := hnorm.mantissa_bounds
  refine ⟨hnorm, fun e m h => Prod.ext_iff.2 (hnorm.unique h), hm, hm', hnorm.neg_le_exponent hlow,
    hnorm.exponent_le hhigh, ?uf64⟩
  case uf64 =>
    rintro rfl
    obtain ⟨hreach, hreach'⟩ := unit192_uf64_reach
    exact ⟨hnorm.neg_le_exponent (l := 27) (by omega), hnorm.exponent_le (u := 37) (by omega)⟩

/-! ### LNSELECT -/

/-- `strictlyRising` is the library's chain of `<`. -/
theorem strictlyRising_iff_isChain (xs : List Int) : strictlyRising xs = true ↔ xs.IsChain (· < ·) := by
  induction xs with
  | nil => simp [strictlyRising]
  | cons x xs ih =>
    cases xs with
    | nil => simp [strictlyRising]
    | cons y ys => rw [strictlyRising, Bool.and_eq_true, decide_eq_true_eq, ih, List.isChain_cons_cons]

theorem getD_le_getD_of_strictlyRising {xs : List Int} (h : strictlyRising xs = true) {i j : Nat} (hij : i ≤ j)
    (hj : j < xs.length) : xs.getD i 0 ≤ xs.getD j 0 := by
  have hpairs := List.pairwise_iff_getElem.1 (List.isChain_iff_pairwise.1 ((strictlyRising_iff_isChain xs).1 h))
  rw [List.getD_eq_getElem _ _ (hij.trans_lt hj), List.getD_eq_getElem _ _ hj]
  obtain rfl | hlt := hij.eq_or_lt
  · exact le_rfl
  · exact (hpairs i j _ hj hlt).le

/-- Halving an interval that holds the mantissa, `fuel` times, leaves one sub-range (42_fix192_poly.md R192). -/
theorem lnSearch_spec {bounds : List Int} {m : Int} {fuel lo hi : Nat} (hfuel : hi - lo ≤ 2 ^ fuel) (hlt : lo < hi)
    (hlow : bounds.getD lo 0 ≤ m) (hhigh : m < bounds.getD hi 0) :
    lnSearch bounds m fuel lo hi < hi ∧ bounds.getD (lnSearch bounds m fuel lo hi) 0 ≤ m ∧
      m < bounds.getD (lnSearch bounds m fuel lo hi + 1) 0 := by
  induction fuel generalizing lo hi with
  | zero =>
    obtain rfl : hi = lo + 1 := by omega
    exact ⟨hlt, hlow, hhigh⟩
  | succ fuel ih =>
    rw [pow_succ] at hfuel
    rw [lnSearch]
    split
    next hone =>
      obtain rfl : hi = lo + 1 := by omega
      exact ⟨hlt, hlow, hhigh⟩
    next hone =>
      split
      next hmid => exact ih (by omega) (by omega) hmid hhigh
      next hmid =>
        obtain ⟨hbelow, hfound⟩ := ih (lo := lo) (hi := (lo + hi) / 2) (by omega) (by omega) hlow (Int.not_le.1 hmid)
        exact ⟨by omega, hfound⟩

/-- At most one sub-range of rising edges holds a mantissa (42_fix192_poly.md R192). -/
theorem le_of_mem_subrange {bounds : List Int} (h : strictlyRising bounds = true) {m : Int} {i j : Nat}
    (hj : j < bounds.length) (hlow : bounds.getD j 0 ≤ m) (hhigh : m < bounds.getD (i + 1) 0) : j ≤ i := by
  by_contra hij
  have hedges : bounds.getD (i + 1) 0 ≤ bounds.getD j 0 := getD_le_getD_of_strictlyRising h (Nat.not_le.1 hij) hj
  omega

/-- Settles O39: the search finds a sub-range, rising edges leave no other, and each has its polynomial. -/
theorem lnSelectFindsTheSubrange : Obligations.LnSelectFindsTheSubrange := by
  intro tab m hwf hlow hhigh
  obtain ⟨hlength, hfirst, hlast, hrising⟩ := Tab.lnBounds_of_wf hwf
  obtain ⟨hpolys, hnonempty⟩ := Tab.lnCoef_of_wf hwf
  obtain ⟨hlt, hfound, hfound'⟩ : lnSelect tab m < 16 ∧ tab.lnBounds.getD (lnSelect tab m) 0 ≤ m ∧
      m < tab.lnBounds.getD (lnSelect tab m + 1) 0 :=
    lnSearch_spec (by decide) (by decide) (hfirst.trans_le hlow) (hhigh.trans_eq hlast.symm)
  have hindex : lnSelect tab m < tab.lnCoef.length := by omega
  refine ⟨hlt, hfound, hfound', fun i hi hedge hedge' => ?unique, hindex, ?polynomial⟩
  case unique =>
    exact le_antisymm (le_of_mem_subrange hrising (by omega) hedge hfound')
      (le_of_mem_subrange hrising (by omega) hfound hedge')
  case polynomial =>
    rw [List.getD_eq_getElem _ _ hindex]
    exact hnonempty _ (List.getElem_mem hindex)

end Sys2Proof.Machine
end

section
/-! PROOFS. Angles (42_fix192_poly.md R195 to R198): whole turns and the residual correction, the fold, and the quarter
turn, under the relations between the angle constants (20_memory.md R45 (d)). -/
namespace Sys2Proof.Machine

/-! ### The fold and the quarter turn -/

section Fold
variable {tab : Tab} {y : Int}

theorem sinFold_of_lt (h : tab.halfPi < y) : sinFold tab y = tab.pi - y := if_pos h

theorem sinFold_of_lt_neg (hpos : 0 < tab.halfPi) (h : y < -tab.halfPi) : sinFold tab y = -tab.pi - y := by
  rw [sinFold, if_neg (by omega), if_pos h]

theorem sinFold_of_mem (hlow : -tab.halfPi ≤ y) (hhigh : y ≤ tab.halfPi) : sinFold tab y = y := by
  rw [sinFold, if_neg (Int.not_lt.2 hhigh), if_neg (Int.not_lt.2 hlow)]

theorem cosShift_of_le (h : y + tab.halfPi ≤ tab.pi) : cosShift tab y = y + tab.halfPi := if_neg (Int.not_lt.2 h)

theorem cosShift_of_lt (h : tab.pi < y + tab.halfPi) : cosShift tab y = y + tab.halfPi - tab.twoPi := if_pos h

/-- The fold brings half a turn, and one unit more, within a quarter turn of zero (42_fix192_poly.md R197). -/
theorem sinFold_mem_range (h : AnglesRelated tab) (hlow : -tab.pi - 1 ≤ y) (hhigh : y ≤ tab.pi + 1) :
    -tab.halfPi ≤ sinFold tab y ∧ sinFold tab y ≤ tab.halfPi := by
  obtain ⟨hpos, -, -, -, hhalf⟩ := h
  obtain hlt | hge := lt_or_ge tab.halfPi y
  · rw [sinFold_of_lt hlt]
    omega
  · obtain hlt | hge' := lt_or_ge y (-tab.halfPi)
    · rw [sinFold_of_lt_neg hpos hlt]
      omega
    · rw [sinFold_of_mem hge' hge]
      exact ⟨hge', hge⟩

/-- The quarter turn stays within half a turn (42_fix192_poly.md R198). -/
theorem cosShift_mem_range (h : AnglesRelated tab) (hlow : -tab.pi < y) (hhigh : y ≤ tab.pi) :
    -tab.pi ≤ cosShift tab y ∧ cosShift tab y ≤ tab.pi ∧ (tab.twoPi ≤ 2 * tab.pi → -tab.pi < cosShift tab y) := by
  obtain ⟨hpos, hhalf, -, hturn, -⟩ := h
  obtain hle | hlt := le_or_gt (y + tab.halfPi) tab.pi
  · rw [cosShift_of_le hle]
    omega
  · rw [cosShift_of_lt hlt]
    omega

end Fold

/-- Settles O45, branch by branch. -/
theorem foldAndShiftStayInRange : Obligations.FoldAndShiftStayInRange :=
  ⟨fun _ _ hpos => ⟨sinFold_of_lt, sinFold_of_lt_neg hpos, sinFold_of_mem⟩,
    fun _ _ => ⟨cosShift_of_le, cosShift_of_lt, rfl, rfl⟩, fun _ _ h => ⟨sinFold_mem_range h, cosShift_mem_range h⟩⟩

/-! ### Whole turns -/

/-- The residual correction of `q` turns (42_fix192_poly.md R196). -/
def residual (tab : Tab) (q : Int) : Int := q * (tab.twoPiRes : Int) / 18446744073709551616

/-- A residual below one unit corrects by at most as many units as there are turns (42_fix192_poly.md R196). -/
theorem natAbs_residual_le {tab : Tab} (hres : tab.twoPiRes < 18446744073709551616) (q : Int) :
    (residual tab q).natAbs ≤ q.natAbs := by
  have hlow : -(q.natAbs : Int) * 18446744073709551616 ≤ q * tab.twoPiRes := by
    nlinarith [neg_abs_le q, abs_nonneg q, Int.natCast_natAbs q]
  have hhigh : q * tab.twoPiRes ≤ (q.natAbs : Int) * 18446744073709551616 := by
    nlinarith [le_abs_self q, abs_nonneg q, Int.natCast_natAbs q]
  have hdiv : -(q.natAbs : Int) ≤ residual tab q := (Int.le_ediv_iff_mul_le (by decide)).2 hlow
  have hdiv' : residual tab q ≤ q.natAbs := Int.ediv_le_of_le_mul (by decide) hhigh
  omega

section Reduce
variable {tab : Tab} {x : Int}

/-- All `REDUCE` can do: less its turns and their correction, and one turn back at either edge (42_fix192_poly.md
R196). -/
theorem reduceWide_cases (tab : Tab) (x : Int) : ∃ y, y = x - turns tab x * tab.twoPi - residual tab (turns tab x) ∧
    ((tab.pi < y ∧ reduceWide tab x = y - tab.twoPi) ∨ (y ≤ -tab.pi ∧ reduceWide tab x = y + tab.twoPi) ∨
      (-tab.pi < y ∧ y ≤ tab.pi ∧ reduceWide tab x = y)) := by
  refine ⟨_, rfl, ?_⟩
  rw [reduceWide, ← residual]
  by_cases habove : tab.pi < x - turns tab x * tab.twoPi - residual tab (turns tab x)
  · exact .inl ⟨habove, if_pos habove⟩
  · rw [if_neg habove]
    by_cases hbelow : x - turns tab x * tab.twoPi - residual tab (turns tab x) ≤ -tab.pi
    · exact .inr (.inl ⟨hbelow, if_pos hbelow⟩)
    · exact .inr (.inr ⟨Int.not_le.1 hbelow, Int.not_lt.1 habove, if_neg hbelow⟩)

theorem AnglesRelated.twoPi_pos (h : AnglesRelated tab) : 0 < tab.twoPi := by
  obtain ⟨hhalf, hpi, hturn, -⟩ := h
  omega

theorem nearestAway_turns (h : AnglesRelated tab) (x : Int) : NearestAway x tab.twoPi (turns tab x) :=
  roundsTo_rdiv .halfUp x h.twoPi_pos.ne'

theorem eq_turns_of_nearestAway (h : AnglesRelated tab) {q : Int} (hq : NearestAway x tab.twoPi q) : q = turns tab x :=
  (roundsTo_iff_eq_rdiv (m := .halfUp) h.twoPi_pos.ne').1 hq

/-- With no residual the result differs from the angle by whole turns (42_fix192_poly.md R196). -/
theorem reduceWide_wholeTurns (hres : tab.twoPiRes = 0) : ∃ k, x - reduceWide tab x = k * tab.twoPi := by
  obtain ⟨y, hy, hcases⟩ := reduceWide_cases tab x
  have hzero : residual tab (turns tab x) = 0 := by simp [residual, hres]
  rw [hzero, sub_zero] at hy
  obtain ⟨-, hr⟩ | ⟨-, hr⟩ | ⟨-, -, hr⟩ := hcases
  · exact ⟨turns tab x + 1, by rw [hr, hy]; ring⟩
  · exact ⟨turns tab x - 1, by rw [hr, hy]; ring⟩
  · exact ⟨turns tab x, by rw [hr, hy]; ring⟩

/-- The result is within the residual correction of the interval from −π to π (42_fix192_poly.md R195, R196). -/
theorem reduceWide_mem_range (h : AnglesRelated tab) {c : Int} (hc : c = residual tab (turns tab x)) :
    -tab.pi - c.natAbs ≤ reduceWide tab x ∧ reduceWide tab x ≤ tab.pi + 1 + c.natAbs ∧
    ((c.natAbs : Int) ≤ tab.pi → -tab.pi ≤ reduceWide tab x ∧ reduceWide tab x ≤ tab.pi + 1 ∧
      (tab.twoPi ≤ 2 * tab.pi → -tab.pi < reduceWide tab x ∧ reduceWide tab x ≤ tab.pi)) := by
  obtain ⟨hnear, -⟩ := nearestAway_turns h x
  obtain ⟨hhalf, hpi, -, hturn, -⟩ := h
  obtain ⟨y, hy, hcases⟩ := reduceWide_cases tab x
  rw [← hc] at hy
  obtain ⟨hedge, hr⟩ | ⟨hedge, hr⟩ | ⟨hlow, hhigh, hr⟩ := hcases <;> rw [hr] <;> omega

end Reduce

/-! ### Operands -/

section Operand
variable {tab : Tab} {t : Ty} {a : Int}

/-- A widened operand of a signed type is less than 2^45 turns of at least 6.0 (42_fix192_poly.md R196). -/
theorem natAbs_turns_lt (ht : t.signed = true) (hmin : t.min ≤ a) (hmax : a ≤ t.max) (hturn : 6 * s192 ≤ tab.twoPi)
    {q : Int} (hq : NearestAway (widen t a) tab.twoPi q) : (q.natAbs : Int) < 35184372088832 := by
  obtain ⟨hlow, hhigh⟩ := widen_mem_range (by rintro rfl; cases ht) hmin hmax
  obtain ⟨hnear, -⟩ := hq
  unfold s192 at hturn
  have hpos : 0 ≤ tab.twoPi := by omega
  by_contra hmany
  have hprod : (35184372088832 : Int) * tab.twoPi ≤ ((q * tab.twoPi).natAbs : Int) := by
    rw [Int.natAbs_mul, Nat.cast_mul, Int.natAbs_of_nonneg hpos]
    exact Int.mul_le_mul_of_nonneg_right (Int.not_lt.1 hmany) hpos
  unfold fix192Min at hlow
  unfold fix192Max at hhigh
  omega

/-- `REDUCE` of an operand: the correction is at most half a turn, so the result is a fix192 raw from −π to π
(42_fix192_poly.md R195, R196). -/
theorem reduce_mem_range (h : AnglesRelated tab) (ht : t.signed = true) (hmin : t.min ≤ a) (hmax : a ≤ t.max)
    (hturn : 6 * s192 ≤ tab.twoPi) (hraw : isFix192 tab.twoPi = true) (hres : tab.twoPiRes < 18446744073709551616) :
    -tab.pi ≤ reduce tab t a ∧ reduce tab t a ≤ tab.pi + 1 ∧ isFix192 (reduce tab t a) = true ∧
      (tab.twoPi ≤ 2 * tab.pi → -tab.pi < reduce tab t a ∧ reduce tab t a ≤ tab.pi) := by
  have hq := natAbs_turns_lt ht hmin hmax hturn (nearestAway_turns h _)
  have hc := natAbs_residual_le hres (turns tab (widen t a))
  obtain ⟨-, -, hrange⟩ := reduceWide_mem_range h (rfl : residual tab (turns tab (widen t a)) = _)
  obtain ⟨-, -, hpi, hdouble, -⟩ := h
  obtain ⟨-, htop⟩ := isFix192_iff.1 hraw
  unfold s192 at hturn
  obtain ⟨hlow, hhigh, hopen⟩ := hrange (by omega)
  refine ⟨hlow, hhigh, isFix192_iff.2 ?_, hopen⟩
  unfold fix192Min
  unfold fix192Max at htop ⊢
  unfold reduce
  omega

end Operand

/-- Settles O40: the quotient is the nearest one, and the bounds follow from its error and the correction. -/
theorem reduceSubtractsWholeTurns : Obligations.ReduceSubtractsWholeTurns := by
  refine fun tab x h => ⟨⟨_, _, nearestAway_turns h x, rfl, rfl⟩, reduceWide_wholeTurns, fun q c hq hc => ?bounds,
    fun t a ht hmin hmax hturn hraw hres => ⟨fun q => natAbs_turns_lt ht hmin hmax hturn,
      reduce_mem_range h ht hmin hmax hturn hraw hres⟩⟩
  case bounds =>
    obtain rfl := eq_turns_of_nearestAway h hq
    exact reduceWide_mem_range h hc

end Sys2Proof.Machine
end

section
/-! PROOFS. The integer square root and SQRT (43_transcendental.md R210). -/
namespace Sys2Proof

/-- A scaled operand has at most 208 bits (43_transcendental.md R210). -/
theorem Ty.max_mul_scale_lt (t : Ty) : t.max * t.scale < 2 ^ 208 := by cases t <;> decide

theorem Ty.scale_le_max (t : Ty) : t.scale ≤ t.max := by cases t <;> decide

end Sys2Proof

namespace Sys2Proof.Machine

/-! ### From the rule of an operation to the next state -/

/-- An instruction answers the rule of the operation and type it is assembled from (30_encoding.md R64). -/
theorem answers_of_assemble {op : Op} {t : Ty} {a b c : Port} {i : Instr} {s : State} {x : Response}
    (h : assemble op t a b c = .ok i) (hslot : s.slot = .idle) (hx : answer Config.unit op t a b c = x) :
    Answers i s x := by
  rw [Answers, exec_of_assemble h, accept_idle s hslot, hx]

/-- An operation that has an instruction for a type admits the type (30_encoding.md R68). -/
theorem admits_of_assemble {op : Op} {t : Ty} {a b c : Port} {i : Instr} (h : assemble op t a b c = .ok i) :
    op.admits t = true := assemble_eq_ok_iff.1 ⟨i, h⟩

/-! ### The bitwise square root -/

/-- The loop keeps `r² ≤ n < (r + 2^k)²`, with `k` the bits still to find; at the end `2^k` is 1. -/
theorem isqrtBits_spec {k n r : Nat} (hlow : r * r ≤ n) (hhigh : n < (r + 2 ^ k) * (r + 2 ^ k)) :
    isqrtBits k n r * isqrtBits k n r ≤ n ∧ n < (isqrtBits k n r + 1) * (isqrtBits k n r + 1) := by
  induction k generalizing r with
  | zero => exact ⟨hlow, hhigh⟩
  | succ k ih =>
    have hbit : r + 2 ^ (k + 1) = r + 2 ^ k + 2 ^ k := by ring
    rw [isqrtBits]
    split
    next hfits => exact ih hfits (hbit ▸ hhigh)
    next hfits => exact ih hlow (Nat.not_le.1 hfits)

/-- Settles O59: 104 result bits suffice for a number below `(2^104)²`. -/
theorem isqrtIsTheIntegerSquareRoot : Obligations.IsqrtIsTheIntegerSquareRoot :=
  fun n hn => isqrtBits_spec (Nat.zero_le n) (by omega)

/-! ### SQRT -/

/-- The square root of `n` rounded to the nearest integer (43_transcendental.md R210, HALF_UP). -/
def nearestRoot (n : Nat) : Nat := if isqrt n < n - isqrt n * isqrt n then isqrt n + 1 else isqrt n

theorem sqrtResult_halfUp (t : Ty) (x : Int) :
    sqrtResult .halfUp t x = .value (nearestRoot (x * t.scale).toNat : Nat) := rfl

/-- `(r − 1/2)² < n < (r + 1/2)²` in integers: no root of an integer is a tie (43_transcendental.md R210). -/
theorem nearestRoot_bounds {n : Nat} (hn : n < 2 ^ 208) :
    n ≤ nearestRoot n * nearestRoot n + nearestRoot n ∧
      (nearestRoot n = 0 ∨ nearestRoot n * nearestRoot n < n + nearestRoot n) := by
  obtain ⟨hlow, hhigh⟩ := isqrtIsTheIntegerSquareRoot n hn
  have hsquare : (isqrt n + 1) * (isqrt n + 1) = isqrt n * isqrt n + 2 * isqrt n + 1 := by ring
  unfold nearestRoot
  split <;> omega

/-- SQRT of an operand that is not negative is the integer nearest to the root, a raw of the type
(43_transcendental.md R210). -/
theorem sqrtResult_halfUp_nearest {t : Ty} {x : Int} (hx : 0 ≤ x) (hmax : x ≤ t.max) :
    ∃ r, sqrtResult .halfUp t x = .value r ∧ 0 ≤ r ∧ r ≤ t.max ∧ x * t.scale ≤ r * r + r ∧
      (r = 0 ∨ r * r - r < x * t.scale) := by
  have hprod : x * t.scale ≤ t.max * t.scale := Int.mul_le_mul_of_nonneg_right hmax (Ty.scale_pos t).le
  have hbits := t.max_mul_scale_lt
  obtain ⟨n, hn⟩ : ∃ n : Nat, x * t.scale = n := Int.eq_ofNat_of_zero_le (Int.mul_nonneg hx (Ty.scale_pos t).le)
  rw [sqrtResult_halfUp, hn, Int.toNat_natCast]
  obtain ⟨hupper, hlower⟩ := nearestRoot_bounds (n := n) (by omega)
  have hlower' : (nearestRoot n : Int) = 0 ∨ (nearestRoot n : Int) * nearestRoot n - nearestRoot n < n := by omega
  refine ⟨_, rfl, Int.natCast_nonneg _, ?range, by exact_mod_cast hupper, hlower'⟩
  case range =>
    obtain hzero | hroot := hlower'
    · exact hzero.trans_le t.max_nonneg
    · nlinarith [t.scale_le_max, t.max_nonneg]

/-- Settles O29: an operand of an unsigned type is not negative. -/
theorem sqrtAnswersTheNearestRoot : Obligations.SqrtAnswersTheNearestRoot := by
  have hwords : [commandWord .sqrt .uf64, commandWord .sqrt .uf128] = [0x0008, 0x0048] := by decide
  refine fun a b c s hslot => ⟨hwords, fun i t hmem => ?_⟩
  have h : assemble .sqrt t a b c = .ok i := by obtain _ | ⟨_, _ | ⟨_, ⟨⟩⟩⟩ := hmem <;> rfl
  have hsigned : t.signed = false := by simpa [Op.admits] using admits_of_assemble h
  obtain ⟨hmin, hmax⟩ := operand_bounds t a
  rw [Ty.min_of_unsigned hsigned] at hmin
  obtain ⟨r, hr, hnonneg, hrange, hupper, hlower⟩ := sqrtResult_halfUp_nearest hmin hmax
  have hresponse : answer Config.unit .sqrt t a b c = okResponse t r := by simp [answer, respondSqrt, hr, okResponse]
  exact ⟨r, hnonneg, hrange, hupper, hlower, answers_of_assemble h hslot hresponse⟩

end Sys2Proof.Machine
end

section
/-! PROOFS. ASIN, ACOS, ATAN and POW (43_transcendental.md R222 to R225): the value of the configuration function, or
the error, and the digits of the range bounds. -/
namespace Sys2Proof

/-! ### The range bounds -/

theorem halfPiCeil_nonneg (t : Ty) : 0 ≤ halfPiCeil t := by cases t <;> decide

/-- A magnitude bound as an interval (43_transcendental.md R222, R224). -/
theorem mem_halfPi_range {t : Ty} {q : Int} (h : q.natAbs ≤ (halfPiCeil t).natAbs) :
    -halfPiCeil t ≤ q ∧ q ≤ halfPiCeil t := by
  have hpos := halfPiCeil_nonneg t
  omega

/-- The named ranges of the inverse functions lie in the range of a signed type (43_transcendental.md R222 to R224). -/
theorem Ty.range_bounds_of_signed {t : Ty} (h : t.signed = true) :
    t.min ≤ -halfPiCeil t ∧ halfPiCeil t ≤ t.max ∧ piCeil t ≤ t.max := by
  cases t with
  | uf64 | uf128 => cases h
  | f64 | f128 => decide

/-- Settles O50: 24 decimals of π decide the ceilings, those of the 64-bit types too. -/
theorem rangeBoundsAreCeilingsOfPi : Obligations.RangeBoundsAreCeilingsOfPi := by
  have hlow := pi_gt_d24
  have hhigh := pi_lt_d24
  intro t
  rw [eq_comm, Int.ceil_eq_iff, eq_comm, Int.ceil_eq_iff]
  cases t <;> norm_num [halfPiCeil, piCeil, Ty.scale]
  all_goals exact ⟨⟨by linarith, by linarith⟩, by linarith, by linarith⟩

end Sys2Proof

namespace Sys2Proof.Machine

/-! ### ASIN, ACOS and ATAN -/

section Inverses
variable (fns : OpaqueFns) {t : Ty} {v : Int}

theorem asinResult_of_scale_lt (h : t.scale < (v.natAbs : Int)) : asinResult fns t v = .error .rangeError := if_pos h

theorem asinResult_of_le_scale (h : ¬ t.scale < (v.natAbs : Int)) : asinResult fns t v = .value (fns.asinFn t v) :=
  if_neg h

theorem acosResult_of_scale_lt (h : t.scale < (v.natAbs : Int)) : acosResult fns t v = .error .rangeError := if_pos h

theorem acosResult_of_le_scale (h : ¬ t.scale < (v.natAbs : Int)) : acosResult fns t v = .value (fns.acosFn t v) :=
  if_neg h

end Inverses

/-- Settles O47: both test the magnitude against 1.0 first, and the named ranges lie in the type's. -/
theorem asinAndAcosAnswer : Obligations.AsinAndAcosAnswer := by
  have hwords : [commandWord .asin .f64, commandWord .asin .f128, commandWord .acos .f64, commandWord .acos .f128] =
      [0x0030, 0x0070, 0x0031, 0x0071] := by decide
  refine fun a b c s hslot => ⟨hwords, fun i j t hmem => ?_⟩
  obtain ⟨hi, hj⟩ : assemble .asin t a b c = .ok i ∧ assemble .acos t a b c = .ok j := by
    obtain _ | ⟨_, _ | ⟨_, ⟨⟩⟩⟩ := hmem <;> exact ⟨rfl, rfl⟩
  obtain ⟨hmin, hmax, hpi⟩ := Ty.range_bounds_of_signed (t := t) (admits_of_assemble hi)
  split
  next hbeyond =>
    exact ⟨answers_of_assemble hi hslot (by rw [answer, respondAsin, asinResult_of_scale_lt _ hbeyond]; rfl),
      answers_of_assemble hj hslot (by rw [answer, respondAcos, acosResult_of_scale_lt _ hbeyond]; rfl)⟩
  next hwithin =>
    obtain ⟨hlow, hhigh⟩ := mem_halfPi_range (Config.opaqueFns.asin_range t (operand t a))
    obtain ⟨hnonneg, hle⟩ := Config.opaqueFns.acos_range t (operand t a)
    refine ⟨⟨_, rfl, hlow, hhigh, hmin.trans hlow, hhigh.trans hmax, answers_of_assemble hi hslot ?_⟩,
      ⟨_, rfl, hnonneg, hle, hle.trans hpi, answers_of_assemble hj hslot ?_⟩⟩
    · rw [answer, respondAsin, asinResult_of_le_scale _ hwithin]
      rfl
    · rw [answer, respondAcos, acosResult_of_le_scale _ hwithin]
      rfl

/-- Settles O48: ATAN has no error, and its named range lies in the type's. -/
theorem atanAnswersOk : Obligations.AtanAnswersOk := by
  have hwords : [commandWord .atan .f64, commandWord .atan .f128] = [0x0032, 0x0072] := by decide
  refine fun a b c s hslot => ⟨hwords, fun i t hmem => ?_⟩
  have h : assemble .atan t a b c = .ok i := by obtain _ | ⟨_, _ | ⟨_, ⟨⟩⟩⟩ := hmem <;> rfl
  obtain ⟨hmin, hmax, -⟩ := Ty.range_bounds_of_signed (t := t) (admits_of_assemble h)
  obtain ⟨hlow, hhigh⟩ := mem_halfPi_range (Config.opaqueFns.atan_range t (operand t a))
  exact ⟨_, rfl, hlow, hhigh, hmin.trans hlow, hhigh.trans hmax, answers_of_assemble h hslot rfl⟩

/-! ### POW -/

/-- The statuses of the errors that `POW_FN` may name (43_transcendental.md R225, P-POW-STATUS). -/
theorem powError_status_mem (e : PowError) : (e, (powErrorKind e).status) ∈
    [(PowError.overflow, Status.overflow), (.negOverflow, .negOverflow), (.underflow, .underflow),
      (.divByZero, .divByZero), (.domainError, .domainError)] := by
  cases e <;> decide

/-- Settles O49, by the two kinds of pair that `POW_FN` returns. -/
theorem powAnswersWithinItsProperties : Obligations.PowAnswersWithinItsProperties := by
  refine fun a b c s hslot => answersInEachType_of_answer .pow hslot (by decide) rfl rfl rfl rfl fun t => ?_
  rw [answer, respondPow, powResult, config_unit_fns]
  cases hfn : Config.opaqueFns.powFn t (operand t a) (operand t b) with
  | value q =>
    obtain ⟨hmin, hmax⟩ := Config.opaqueFns.pow_range t _ _ q hfn
    exact .inl ⟨q, rfl, hmin, hmax, rfl⟩
  | error e => exact .inr ⟨e, _, rfl, rfl, powError_status_mem e⟩

end Sys2Proof.Machine
end

section
/-! PROOFS. LN, EXP, SIN, COS and TAN (43_transcendental.md R211 to R215): the response of each over the table of this
unit, and what holds of them over every table (R230). -/
namespace Sys2Proof

theorem Ty.min_le_neg_max_of_signed {t : Ty} (h : t.signed = true) : t.min ≤ -t.max := by
  obtain ⟨hmin, hmax⟩ := Ty.range_of_signed h
  omega

end Sys2Proof

namespace Sys2Proof.Machine

/-! ### What the check of a table asks for -/

theorem Tab.angles_of_wf {tab : Tab} (h : tab.wf = true) : AnglesRelated tab := by
  obtain ⟨-, -, -, -, -, -, hok, -⟩ := Tab.wf_iff.1 h
  simp only [Tab.anglesOk, Bool.and_eq_true, decide_eq_true_eq] at hok
  obtain ⟨⟨⟨⟨⟨⟨hpos, hhalf⟩, hpi⟩, -⟩, hturn⟩, hhalf'⟩, -⟩ := hok
  exact ⟨hpos, hhalf, hpi, hturn, hhalf'⟩

/-- The cutoff of TAN is a raw of the type (20_memory.md R44). -/
theorem Tab.tanMax_le_of_wf {tab : Tab} {t : Ty} (h : tab.wf = true) (ht : t.signed = true) : tab.tanMax t ≤ t.max := by
  obtain ⟨-, -, -, -, -, -, -, h64, h128⟩ := Tab.wf_iff.1 h
  have hok : tab.tanMaxOk t = true := by
    cases t with
    | uf64 | uf128 => cases ht
    | f64 => exact h64
    | f128 => exact h128
  simp only [Tab.tanMaxOk, Bool.and_eq_true, decide_eq_true_eq] at hok
  obtain ⟨-, hmax⟩ := hok
  exact hmax

/-! ### The signal and the narrowing, from results to responses -/

/-- A response is judged under the fix192 signal as its result is (42_fix192_poly.md R176). -/
theorem orOverflow_respond_orSignal {v : Option Int} {k : Int → Result} {t : Ty} {P : Int → Response → Prop}
    (h : ∀ r, P r (respond Config.unit t (k r))) : OrOverflow v P (respond Config.unit t (orSignal v k)) := by
  cases v with
  | none => rfl
  | some r => exact h r

/-- Narrowing answers what `Concluded` asks for (42_fix192_poly.md R177). -/
theorem concluded_respond_narrow (t : Ty) (r : Int) (z : Bool) :
    Concluded t r t.unit192 z (respond Config.unit t (narrow .halfUp t r z)) :=
  concluded_respond_conclude t r (Ty.unit192_pos t) z

/-- Inside the range of the type the range tests do not fire (41_fixed_arith.md R142). -/
theorem Concluded.status_of_mem_range {t : Ty} {n d : Int} {z : Bool} {x : Response} (h : Concluded t n d z x)
    (hlow : t.min * d ≤ n) (hhigh : n ≤ t.max * d) : x.status ≠ .overflow ∧ x.status ≠ .negOverflow := by
  rw [Concluded, if_neg hhigh.not_gt, if_neg hlow.not_gt] at h
  split at h
  next =>
    subst h
    exact ⟨nofun, nofun⟩
  next =>
    obtain ⟨q, -, rfl⟩ := h
    exact ⟨nofun, nofun⟩

theorem orSignal_eq_error {v : Option Int} {k : Int → Result} {e : ErrorKind} (h : orSignal v k = .error e) :
    e = .overflow ∨ ∃ r, k r = .error e := by
  cases v with
  | none =>
    cases h
    exact .inl rfl
  | some r => exact .inr ⟨r, h⟩

/-- With zero allowed the errors of narrowing are those of the range tests (42_fix192_poly.md R177). -/
theorem narrow_zeroOk_eq_error {m : RMode} {t : Ty} {r : Int} {e : ErrorKind} (h : narrow m t r true = .error e) :
    e = .overflow ∨ e = .negOverflow := by
  obtain ⟨-, hr⟩ | ⟨-, -, hr⟩ | ⟨-, -, ⟨-, -, hz⟩, -⟩ | ⟨-, -, -, hr⟩ := conclude_cases m t r t.unit192 true
  · exact .inl (Result.error.inj (h.symm.trans hr))
  · exact .inr (Result.error.inj (h.symm.trans hr))
  · cases hz
  · cases h.symm.trans hr

/-! ### LN -/

theorem lnResult_zero (tab : Tab) (m : RMode) (t : Ty) : lnResult tab m t 0 = .error .domainError := if_pos rfl

theorem lnResult_of_ne_zero (tab : Tab) (m : RMode) (t : Ty) {x : Int} (hx : x ≠ 0) : lnResult tab m t x =
    orSignal (poly tab.k (tab.lnCoef.getD (lnSelect tab (lnNorm t x).2) [])
      ((lnNorm t x).2 - tab.lnBounds.getD (lnSelect tab (lnNorm t x).2) 0)) fun p =>
        orSignal (f192Add p ((lnNorm t x).1 * tab.ln2)) fun r => narrow m t.signedOf r true := if_neg hx

/-- An error of LN of a number that is not 0 is one of the range tests or the signal (43_transcendental.md R211). -/
theorem lnResult_eq_error {tab : Tab} {m : RMode} {t : Ty} {x : Int} {e : ErrorKind} (hx : x ≠ 0)
    (h : lnResult tab m t x = .error e) : e = .overflow ∨ e = .negOverflow := by
  rw [lnResult_of_ne_zero tab m t hx] at h
  obtain hover | ⟨p, hp⟩ := orSignal_eq_error h
  · exact .inl hover
  · obtain hover | ⟨r, hr⟩ := orSignal_eq_error hp
    · exact .inl hover
    · exact narrow_zeroOk_eq_error hr

/-- Settles O41: `LNNORM` and `LNSELECT` find the exponent, the mantissa and its sub-range. -/
theorem lnAnswers : Obligations.LnAnswers := by
  have hwords : [commandWord .ln .uf64, commandWord .ln .uf128] = [0x0009, 0x0049] := by decide
  refine fun a b c s hslot => ⟨hwords, fun i t out hmem => ?_⟩
  obtain ⟨h, rfl⟩ : assemble .ln t a b c = .ok i ∧ out = t.signedOf := by
    obtain _ | ⟨_, _ | ⟨_, ⟨⟩⟩⟩ := hmem <;> exact ⟨rfl, rfl⟩
  have hsigned : t.signed = false := by simpa [Op.admits] using admits_of_assemble h
  split
  next hzero => exact answers_of_assemble h hslot (by rw [answer, respondLn, hzero, lnResult_zero]; rfl)
  next hzero =>
    obtain ⟨hmin, hmax⟩ := operand_bounds t a
    rw [Ty.min_of_unsigned hsigned] at hmin
    obtain ⟨hnorm, -⟩ := lnNormFindsTheMantissa.1 t _ hsigned (lt_of_le_of_ne hmin (Ne.symm hzero)) hmax
    obtain ⟨hm, hm'⟩ := hnorm.mantissa_bounds
    obtain ⟨hj, hedge, hedge', -⟩ := lnSelectFindsTheSubrange Config.tab _ config_tab_wf hm hm'
    refine ⟨_, _, _, hnorm, hj, hedge, hedge', answersSome_of_assemble h hslot ?_⟩
    rw [answer, respondLn, lnResult_of_ne_zero _ _ _ hzero]
    exact orOverflow_respond_orSignal fun p => orOverflow_respond_orSignal fun r => concluded_respond_narrow _ r true

/-! ### EXP -/

section Exp
variable {tab : Tab} (m : RMode) {t : Ty} {x : Int}

theorem expResult_of_lt (h : x < tab.minLnRaw t) : expResult tab m t x = .error .underflow := if_pos h

theorem expResult_of_gt (h : ¬ x < tab.minLnRaw t) (h' : tab.maxLnRaw t < x) :
    expResult tab m t x = .error .overflow := by rw [expResult, if_neg h, if_pos h']

theorem expResult_of_mem (h : ¬ x < tab.minLnRaw t) (h' : ¬ tab.maxLnRaw t < x) : expResult tab m t x =
    orSignal (poly tab.k tab.expCoef (expFraction t x)) fun p =>
      narrow m t.unsignedOf (p * expEntry tab (expWhole t x) / ((2 ^ tab.k : Nat) : Int)) false := by
  rw [expResult, if_neg h, if_neg h']

end Exp

/-- Settles O42: between the thresholds `EXPSPLIT` gives an exponent with an entry in `EXP_TAB`, and the fraction. -/
theorem expAnswers : Obligations.ExpAnswers := by
  have hwords : [commandWord .exp .f64, commandWord .exp .f128] = [0x002A, 0x006A] := by decide
  refine fun a b c s hslot => ⟨hwords, fun i t out hmem => ?_⟩
  obtain ⟨h, rfl⟩ : assemble .exp t a b c = .ok i ∧ out = t.unsignedOf := by
    obtain _ | ⟨_, _ | ⟨_, ⟨⟩⟩⟩ := hmem <;> exact ⟨rfl, rfl⟩
  split
  next hlow =>
    exact answers_of_assemble h hslot (by rw [answer, respondExp, config_unit_tab, expResult_of_lt _ hlow]; rfl)
  next hlow =>
    split
    next hhigh =>
      exact answers_of_assemble h hslot (by rw [answer, respondExp, config_unit_tab, expResult_of_gt _ hlow hhigh]; rfl)
    next hhigh =>
      obtain ⟨f, hsplit, hf, hf', hwide, -, -, hk, hk', -⟩ := expSplitIsFloorAndFraction.1 Config.tab t (operand t a)
        config_tab_wf (admits_of_assemble h) (Int.not_lt.1 hlow) (Int.not_lt.1 hhigh)
      refine ⟨_, f, hsplit, hf, hf', hk, hk', answersSome_of_assemble h hslot ?_⟩
      rw [answer, respondExp, config_unit_tab, expResult_of_mem _ hlow hhigh, hwide]
      exact orOverflow_respond_orSignal fun p => concluded_respond_narrow _ _ false

/-! ### SIN and COS -/

theorem reduced_reduce (t : Ty) (x : Int) : Reduced Config.tab (widen t x) (reduce Config.tab t x) :=
  (reduceSubtractsWholeTurns Config.tab _ (Tab.angles_of_wf config_tab_wf)).1

/-- Settles O43: the angles of the statement are those that the reduction, the fold and the quarter turn compute. -/
theorem sinAndCosAnswer : Obligations.SinAndCosAnswer := by
  have hwords : [commandWord .sin .f64, commandWord .sin .f128, commandWord .cos .f64, commandWord .cos .f128] =
      [0x002B, 0x006B, 0x002C, 0x006C] := by decide
  refine fun a b c s hslot => ⟨hwords, fun i j t hmem => ?_⟩
  obtain ⟨hi, hj⟩ : assemble .sin t a b c = .ok i ∧ assemble .cos t a b c = .ok j := by
    obtain _ | ⟨_, _ | ⟨_, ⟨⟩⟩⟩ := hmem <;> exact ⟨rfl, rfl⟩
  exact ⟨_, _, _, _, reduced_reduce t (operand t a), rfl, rfl, rfl,
    answersSome_of_assemble hi hslot (orOverflow_respond_orSignal fun r => concluded_respond_narrow t r true),
    answersSome_of_assemble hj hslot (orOverflow_respond_orSignal fun r => concluded_respond_narrow t r true)⟩

/-! ### TAN -/

section TanRatio
variable {tab : Tab} (m : RMode) {t : Ty} {sn cs : Int}

theorem tanRatio_zero (tab : Tab) (t : Ty) (sn : Int) :
    tanRatio tab m t sn 0 = .error (if 0 ≤ sn then .overflow else .negOverflow) := by
  rw [tanRatio, if_pos rfl]
  split <;> rfl

theorem tanRatio_of_gt (hcs : cs ≠ 0) (h : tab.tanMax t * t.unit192 < (sn * s192).tdiv cs) :
    tanRatio tab m t sn cs = .error .overflow := by rw [tanRatio, if_neg hcs, if_pos h]

theorem tanRatio_of_lt (hcs : cs ≠ 0) (h : ¬ tab.tanMax t * t.unit192 < (sn * s192).tdiv cs)
    (h' : (sn * s192).tdiv cs < -tab.tanMax t * t.unit192) : tanRatio tab m t sn cs = .error .negOverflow := by
  rw [tanRatio, if_neg hcs, if_neg h, if_pos h']

theorem tanRatio_of_mem (hcs : cs ≠ 0) (h : ¬ tab.tanMax t * t.unit192 < (sn * s192).tdiv cs)
    (h' : ¬ (sn * s192).tdiv cs < -tab.tanMax t * t.unit192) :
    tanRatio tab m t sn cs = narrow m t ((sn * s192).tdiv cs) false := by
  rw [tanRatio, if_neg hcs, if_neg h, if_neg h']

end TanRatio

/-- Within the cutoff, a raw of the type, a ratio is narrowed without meeting the range tests (43_transcendental.md
R215). -/
theorem narrow_within_cutoff {t : Ty} (ht : t.signed = true) {cutoff q : Int} (hcutoff : cutoff ≤ t.max)
    (hhigh : q ≤ cutoff * t.unit192) (hlow : -cutoff * t.unit192 ≤ q) (z : Bool) :
    (respond Config.unit t (narrow .halfUp t q z)).status ≠ .overflow ∧
      (respond Config.unit t (narrow .halfUp t q z)).status ≠ .negOverflow := by
  have hmin := Ty.min_le_neg_max_of_signed ht
  have hunit := (Ty.unit192_pos t).le
  refine (concluded_respond_narrow t q z).status_of_mem_range ?_ ?_
  · exact (Int.mul_le_mul_of_nonneg_right (by omega) hunit).trans hlow
  · exact hhigh.trans (Int.mul_le_mul_of_nonneg_right hcutoff hunit)

/-- Settles O44: the tests of the ratio in their order, and what is left lies within the cutoff. -/
theorem tanAnswersTheRatio : Obligations.TanAnswersTheRatio := by
  have hwords : [commandWord .tan .f64, commandWord .tan .f128] = [0x002D, 0x006D] := by decide
  refine fun a b c s hslot => ⟨hwords, fun i t hmem => ?_⟩
  have h : assemble .tan t a b c = .ok i := by obtain _ | ⟨_, _ | ⟨_, ⟨⟩⟩⟩ := hmem <;> rfl
  refine ⟨_, _, _, _, reduced_reduce t (operand t a), rfl, rfl, rfl, answersSome_of_assemble h hslot
    (orOverflow_respond_orSignal fun sn => orOverflow_respond_orSignal fun cs => ?_)⟩
  rw [config_unit_tab, config_unit_rmode]
  split
  next hcs =>
    rw [hcs, tanRatio_zero]
    split <;> rfl
  next hcs =>
    refine ⟨_, towardZero_tdiv _ hcs, ?_⟩
    split
    next hover => rw [tanRatio_of_gt _ hcs hover]; rfl
    next hover =>
      split
      next hneg => rw [tanRatio_of_lt _ hcs hover hneg]; rfl
      next hneg =>
        rw [tanRatio_of_mem _ hcs hover hneg]
        exact ⟨concluded_respond_narrow t _ false, narrow_within_cutoff (admits_of_assemble h)
          (Tab.tanMax_le_of_wf config_tab_wf (admits_of_assemble h)) (Int.not_lt.1 hover) (Int.not_lt.1 hneg) false⟩

/-! ### Over every table -/

/-- Settles O46: the thresholds are tested before the table is used, and narrowing with zero allowed has only the errors
of the range tests. -/
theorem tableFreeProperties : Obligations.TableFreeProperties := by
  refine fun tab m t x => ⟨⟨fun h => ?domain, fun hx => hx ▸ lnResult_zero tab m t⟩, expResult_of_lt m,
    fun hlow hhigh => expResult_of_gt m hlow.not_gt hhigh, fun e h => ?angles⟩
  case domain =>
    by_contra hx
    obtain he | he := lnResult_eq_error hx h <;> cases he
  case angles =>
    obtain hsignal | ⟨r, hr⟩ : e = .overflow ∨ ∃ r, narrow m t r true = .error e :=
      h.elim orSignal_eq_error orSignal_eq_error
    · exact .inl hsignal
    · exact narrow_zeroOk_eq_error hr

end Sys2Proof.Machine
end

section
/-! PROOFS. Statuses and responses (60_exceptions.md R240 to R245): the layout of a response, that no operation ends
outside its row of the status table or with a value outside its result type, and the order of the first tests. -/
namespace Sys2Proof.Machine

/-! ### Status codes and the 132 bits -/

@[simp] theorem Status.ofCode_code (st : Status) : Status.ofCode st.code = some st := by cases st <;> rfl

@[simp] theorem Response.toBits_status (x : Response) : x.toBits.extractLsb' 0 4 = x.status.code :=
  BitVec.extractLsb'_append_eq_right

@[simp] theorem Response.toBits_result (x : Response) : x.toBits.extractLsb' 4 128 = x.r :=
  BitVec.extractLsb'_append_eq_left

theorem Response.ofBits_toBits (x : Response) : Response.ofBits x.toBits = some x := by
  rw [Response.ofBits, Response.toBits_status, Response.toBits_result, Status.ofCode_code]

/-- Settles O8: the codes are run through, and the two fields of the 132 bits are the halves of an append. -/
theorem statusCodesAndResponseLayout : Obligations.StatusCodesAndResponseLayout :=
  ⟨rfl, by decide, Response.ofBits_toBits, fun x => ⟨x.toBits_status, x.toBits_result⟩⟩

/-! ### The order of the tests -/

/-- Settles O22: each test is the first branch of its operation, the upper threshold of EXP the second. -/
theorem operandTestsComeFirst : Obligations.OperandTestsComeFirst := by
  refine ⟨fun cfg q e h => ?illegal, fun _ _ _ _ => ⟨if_pos rfl, if_pos rfl, if_pos rfl⟩, lnResult_zero,
    fun fns _ _ h => ⟨asinResult_of_scale_lt fns h, acosResult_of_scale_lt fns h⟩,
    fun _ m _ _ => ⟨expResult_of_lt m, fun hlow => expResult_of_gt m hlow.not_gt⟩⟩
  case illegal => rw [execRequest_error h]

/-! ### One result for each operation -/

/-- How an operation ends on the values of its operands (30_encoding.md R64, R66). -/
def opResult (cfg : Cfg) (op : Op) (t : Ty) (x y z : Int) : Result :=
  match op with
  | .add => addResult cfg.rmode t x y
  | .sub => subResult cfg.rmode t x y
  | .mul => mulResult cfg.rmode t x y
  | .div => divResult cfg.rmode t x y
  | .mod => modResult x y
  | .fmd => fmdResult cfg.rmode t x y z
  | .sqrt => sqrtResult cfg.rmode t x
  | .ln => lnResult cfg.tab cfg.rmode t x
  | .exp => expResult cfg.tab cfg.rmode t x
  | .sin => sinResult cfg.tab cfg.rmode t x
  | .cos => cosResult cfg.tab cfg.rmode t x
  | .tan => tanResult cfg.tab cfg.rmode t x
  | .asin => asinResult cfg.fns t x
  | .acos => acosResult cfg.fns t x
  | .atan => atanResult cfg.fns t x
  | .pow => powResult cfg.fns t x y

/-- The rule of an operation encodes its result in the result type (30_encoding.md R64, R68). -/
theorem answer_eq_respond (cfg : Cfg) (op : Op) (t : Ty) (a b c : Port) : answer cfg op t a b c =
    respond cfg (op.resultTy t) (opResult cfg op t (operand t a) (operand t b) (operand t c)) := by
  cases op <;> rfl

theorem respond_of_status_ne_ok {cfg : Cfg} {t : Ty} {x : Result} (h : (respond cfg t x).status ≠ .ok) :
    (respond cfg t x).r = cfg.errval := by
  cases x with
  | value q => exact absurd rfl h
  | error e => rfl

theorem respond_of_status_eq_ok {cfg : Cfg} {t : Ty} {x : Result} (h : (respond cfg t x).status = .ok) :
    ∃ q, x = .value q ∧ (respond cfg t x).r = resultPattern t q := by
  cases x with
  | value q => exact ⟨q, rfl, rfl⟩
  | error e => cases e <;> cases h

/-! ### What the shared endings can answer -/

/-- A result that its row of the status table and its result type permit: an error of the row, or a raw of the type
(60_exceptions.md R242, 00_scope.md R7). -/
def Result.Permitted (tOut : Ty) (row : Status → Bool) : Result → Prop
  | .value q => tOut.min ≤ q ∧ q ≤ tOut.max
  | .error e => row e.status = true

section Endings
variable {m : RMode} {t : Ty} {row : Status → Bool} {n d : Int} {z : Bool}

/-- The common ending keeps to a row that has every error whose test can fire; its value is in range because the exact
fraction is (41_fixed_arith.md R142). -/
theorem conclude_permitted (hd : 0 < d) (hover : t.max * d < n → row .overflow = true)
    (hneg : n < t.min * d → row .negOverflow = true) (hunder : z = false → row .underflow = true) :
    (conclude m t n d z).Permitted t row := by
  obtain ⟨h, hr⟩ | ⟨-, h, hr⟩ | ⟨-, -, ⟨-, -, h⟩, hr⟩ | ⟨hmax, hmin, -, hr⟩ := conclude_cases m t n d z <;> rw [hr]
  · exact hover h
  · exact hneg h
  · exact hunder h
  · exact rdiv_mem_bounds hd (Int.not_lt.1 hmin) (Int.not_lt.1 hmax)

/-- Narrowing can answer either range error, and Underflow where zero is not allowed (42_fix192_poly.md R177). -/
theorem narrow_permitted (hover : row .overflow = true) (hneg : row .negOverflow = true)
    (hunder : z = false → row .underflow = true) : (narrow m t n z).Permitted t row :=
  conclude_permitted (Ty.unit192_pos t) (fun _ => hover) (fun _ => hneg) hunder

/-- Over the denominator 1 nothing underflows (41_fixed_arith.md R143, R144). -/
theorem finish_one_permitted (hover : t.max < n → row .overflow = true) (hneg : n < t.min → row .negOverflow = true) :
    (finish m t n 1).Permitted t row := by
  rw [finish_one]
  split
  next h => exact hover h
  next hmax =>
    split
    next h => exact hneg h
    next hmin => exact ⟨Int.not_lt.1 hmin, Int.not_lt.1 hmax⟩

/-- `FINISH` answers NegOverflow only in a signed type: an unsigned fraction is not negative (41_fixed_arith.md
R142). -/
theorem finish_permitted (hd : d ≠ 0) (hover : row .overflow = true) (hunder : row .underflow = true)
    (hneg : row .negOverflow = t.signed) (hnonneg : t.signed = false → 0 ≤ n ∧ 0 ≤ d) :
    (finish m t n d).Permitted t row := by
  rw [finish_eq_conclude m t n hd]
  refine conclude_permitted (Int.natCast_pos.2 (Int.natAbs_pos.2 hd)) (fun _ => hover) (fun hlow => ?_) fun _ => hunder
  cases hsigned : t.signed with
  | true => rw [hneg, hsigned]
  | false =>
    obtain ⟨hn, hd'⟩ := hnonneg hsigned
    rw [Ty.min_of_unsigned hsigned, zero_mul, if_neg hd'.not_gt] at hlow
    exact absurd hn hlow.not_ge

/-- The fix192 signal answers Overflow (42_fix192_poly.md R176). -/
theorem orSignal_permitted {v : Option Int} {k : Int → Result} (hover : row .overflow = true)
    (hk : ∀ r, (k r).Permitted t row) : (orSignal v k).Permitted t row := by
  cases v with
  | none => exact hover
  | some r => exact hk r

/-- The zero divisor is tested first (60_exceptions.md R244). -/
theorem divByZero_permitted {x : Result} (hzero : row .divByZero = true) (hx : d ≠ 0 → x.Permitted t row) :
    (if d = 0 then .error .divByZero else x : Result).Permitted t row := by
  split
  next => exact hzero
  next hd => exact hx hd

end Endings

/-! ### Each operation keeps to its row and its result type -/

section Rows
variable {m : RMode} {t : Ty} {x y z : Int}

theorem Ty.nonneg_of_unsigned (hx : t.min ≤ x ∧ x ≤ t.max) (h : t.signed = false) : 0 ≤ x :=
  Ty.min_of_unsigned h ▸ hx.1

theorem Ty.signed_of_min_ne_zero (h : t.min ≠ 0) : t.signed = true :=
  Bool.eq_true_of_not_eq_false (mt Ty.min_of_unsigned h)

/-- A sum below the range needs a negative operand, so a signed type (41_fixed_arith.md R143). -/
theorem addResult_permitted (hx : t.min ≤ x ∧ x ≤ t.max) (hy : t.min ≤ y ∧ y ≤ t.max) :
    (addResult m t x y).Permitted t (mayAnswer .add t) :=
  finish_one_permitted (fun _ => rfl) fun _ => Ty.signed_of_min_ne_zero (by omega)

/-- A difference above the range needs a negative subtrahend, so a signed type (41_fixed_arith.md R144). -/
theorem subResult_permitted (hx : t.min ≤ x ∧ x ≤ t.max) (hy : t.min ≤ y ∧ y ≤ t.max) :
    (subResult m t x y).Permitted t (mayAnswer .sub t) :=
  finish_one_permitted (fun _ => Ty.signed_of_min_ne_zero (by omega)) fun _ => rfl

theorem mulResult_permitted (hx : t.min ≤ x ∧ x ≤ t.max) (hy : t.min ≤ y ∧ y ≤ t.max) :
    (mulResult m t x y).Permitted t (mayAnswer .mul t) :=
  finish_permitted (Ty.scale_pos t).ne' rfl rfl rfl fun h =>
    ⟨mul_nonneg (Ty.nonneg_of_unsigned hx h) (Ty.nonneg_of_unsigned hy h), (Ty.scale_pos t).le⟩

theorem divResult_permitted (hx : t.min ≤ x ∧ x ≤ t.max) (hy : t.min ≤ y ∧ y ≤ t.max) :
    (divResult m t x y).Permitted t (mayAnswer .div t) :=
  divByZero_permitted rfl fun hd => finish_permitted hd rfl rfl rfl fun h =>
    ⟨mul_nonneg (Ty.nonneg_of_unsigned hx h) (Ty.scale_pos t).le, Ty.nonneg_of_unsigned hy h⟩

theorem fmdResult_permitted (hx : t.min ≤ x ∧ x ≤ t.max) (hy : t.min ≤ y ∧ y ≤ t.max) (hz : t.min ≤ z ∧ z ≤ t.max) :
    (fmdResult m t x y z).Permitted t (mayAnswer .fmd t) :=
  divByZero_permitted rfl fun hd => finish_permitted hd rfl rfl rfl fun h =>
    ⟨mul_nonneg (Ty.nonneg_of_unsigned hx h) (Ty.nonneg_of_unsigned hy h), Ty.nonneg_of_unsigned hz h⟩

theorem modResult_permitted (hx : t.min ≤ x ∧ x ≤ t.max) : (modResult x y).Permitted t (mayAnswer .mod t) :=
  divByZero_permitted rfl fun _ => Int.tmod_def x y ▸ tmod_mem_range hx y

/-- The floor of the root is no more than the nearest integer to it, so in range as well (43_transcendental.md
R210). -/
theorem sqrtResult_permitted (hx : t.min ≤ x ∧ x ≤ t.max) (hsigned : t.signed = false) :
    (sqrtResult m t x).Permitted t (mayAnswer .sqrt t) := by
  obtain ⟨r, hr, hnonneg, hmax, -⟩ := sqrtResult_halfUp_nearest (Ty.nonneg_of_unsigned hx hsigned) hx.2
  cases m with
  | halfUp =>
    rw [hr]
    exact ⟨t.min_nonpos.trans hnonneg, hmax⟩
  | down =>
    have hfloor : isqrt (x * t.scale).toNat ≤ nearestRoot (x * t.scale).toNat := by unfold nearestRoot; split <;> omega
    have hnearest : (nearestRoot (x * t.scale).toNat : Int) = r := Result.value.inj hr
    exact ⟨t.min_nonpos.trans (Int.natCast_nonneg _), by omega⟩

theorem lnResult_permitted (tab : Tab) : (lnResult tab m t x).Permitted t.signedOf (mayAnswer .ln t) := by
  by_cases hx : x = 0
  · rw [hx, lnResult_zero]
    rfl
  · rw [lnResult_of_ne_zero tab m t hx]
    exact orSignal_permitted rfl fun _ => orSignal_permitted rfl fun _ => narrow_permitted rfl rfl nofun

theorem expResult_permitted (tab : Tab) : (expResult tab m t x).Permitted t.unsignedOf (mayAnswer .exp t) := by
  by_cases hlow : x < tab.minLnRaw t
  · rw [expResult_of_lt m hlow]
    rfl
  · by_cases hhigh : tab.maxLnRaw t < x
    · rw [expResult_of_gt m hlow hhigh]
      rfl
    · rw [expResult_of_mem m hlow hhigh]
      exact orSignal_permitted rfl fun _ => narrow_permitted rfl rfl fun _ => rfl

theorem tanRatio_permitted (tab : Tab) (sn cs : Int) : (tanRatio tab m t sn cs).Permitted t (mayAnswer .tan t) := by
  by_cases hcs : cs = 0
  · rw [hcs, tanRatio_zero]
    split <;> rfl
  · by_cases hover : tab.tanMax t * t.unit192 < (sn * s192).tdiv cs
    · rw [tanRatio_of_gt m hcs hover]
      rfl
    · by_cases hneg : (sn * s192).tdiv cs < -tab.tanMax t * t.unit192
      · rw [tanRatio_of_lt m hcs hover hneg]
        rfl
      · rw [tanRatio_of_mem m hcs hover hneg]
        exact narrow_permitted rfl rfl fun _ => rfl

theorem asinResult_permitted (fns : OpaqueFns) (hsigned : t.signed = true) :
    (asinResult fns t x).Permitted t (mayAnswer .asin t) := by
  by_cases hbeyond : t.scale < (x.natAbs : Int)
  · rw [asinResult_of_scale_lt fns hbeyond]
    rfl
  · obtain ⟨hmin, hmax, -⟩ := Ty.range_bounds_of_signed hsigned
    obtain ⟨hlow, hhigh⟩ := mem_halfPi_range (fns.asin_range t x)
    rw [asinResult_of_le_scale fns hbeyond]
    exact ⟨hmin.trans hlow, hhigh.trans hmax⟩

theorem acosResult_permitted (fns : OpaqueFns) (hsigned : t.signed = true) :
    (acosResult fns t x).Permitted t (mayAnswer .acos t) := by
  by_cases hbeyond : t.scale < (x.natAbs : Int)
  · rw [acosResult_of_scale_lt fns hbeyond]
    rfl
  · obtain ⟨-, -, hmax⟩ := Ty.range_bounds_of_signed hsigned
    obtain ⟨hnonneg, hle⟩ := fns.acos_range t x
    rw [acosResult_of_le_scale fns hbeyond]
    exact ⟨t.min_nonpos.trans hnonneg, hle.trans hmax⟩

theorem atanResult_permitted (fns : OpaqueFns) (hsigned : t.signed = true) :
    (atanResult fns t x).Permitted t (mayAnswer .atan t) := by
  obtain ⟨hmin, hmax, -⟩ := Ty.range_bounds_of_signed hsigned
  obtain ⟨hlow, hhigh⟩ := mem_halfPi_range (fns.atan_range t x)
  exact ⟨hmin.trans hlow, hhigh.trans hmax⟩

theorem powResult_permitted (fns : OpaqueFns) : (powResult fns t x y).Permitted t (mayAnswer .pow t) := by
  rw [powResult]
  cases hfn : fns.powFn t x y with
  | value q => exact fns.pow_range t x y q hfn
  | error e => cases e <;> rfl

/-- Every operation, on operands in range of a type it admits, ends in an error of its row or in a raw of its result
type (60_exceptions.md R242, R245). -/
theorem opResult_permitted (cfg : Cfg) {op : Op} (hadmits : op.admits t = true) (hx : t.min ≤ x ∧ x ≤ t.max)
    (hy : t.min ≤ y ∧ y ≤ t.max) (hz : t.min ≤ z ∧ z ≤ t.max) :
    (opResult cfg op t x y z).Permitted (op.resultTy t) (mayAnswer op t) := by
  cases op with
  | add => exact addResult_permitted hx hy
  | sub => exact subResult_permitted hx hy
  | mul => exact mulResult_permitted hx hy
  | div => exact divResult_permitted hx hy
  | mod => exact modResult_permitted hx
  | fmd => exact fmdResult_permitted hx hy hz
  | sqrt =>
    have hsigned : t.signed = false := by simpa [Op.admits] using hadmits
    exact sqrtResult_permitted hx hsigned
  | ln => exact lnResult_permitted cfg.tab
  | exp => exact expResult_permitted cfg.tab
  | sin | cos => exact orSignal_permitted rfl fun _ => narrow_permitted rfl rfl nofun
  | tan => exact orSignal_permitted rfl fun _ => orSignal_permitted rfl fun _ => tanRatio_permitted cfg.tab _ _
  | asin => exact asinResult_permitted cfg.fns hadmits
  | acos => exact acosResult_permitted cfg.fns hadmits
  | atan => exact atanResult_permitted cfg.fns hadmits
  | pow => exact powResult_permitted cfg.fns

end Rows

/-! ### Every response -/

/-- A request that decodes is answered with a result its operation's row and result type permit (30_encoding.md R64,
60_exceptions.md R242, R245). -/
theorem execRequest_eq_respond_permitted (cfg : Cfg) {q : Request} {i : Instr} (h : decodeRequest q = .ok i) :
    ∃ x : Result, x.Permitted (i.op.resultTy i.ty) (mayAnswer i.op i.ty) ∧
      execRequest cfg q = respond cfg (i.op.resultTy i.ty) x :=
  ⟨_, opResult_permitted cfg (admits_of_assemble (assemble_fields i)) (operand_bounds i.ty i.portA)
    (operand_bounds i.ty i.portB) (operand_bounds i.ty i.portC), by rw [execRequest_ok h, answer_eq_respond]⟩

/-- Settles O21: the status is that of a permitted result, and every row has OK. -/
theorem statusesStayInTheirRow : Obligations.StatusesStayInTheirRow := by
  intro cfg q i h
  obtain ⟨x, hx, hr⟩ := execRequest_eq_respond_permitted cfg h
  rw [hr]
  cases x with
  | value v => cases i.op <;> rfl
  | error e => exact hx

/-- Settles O20: `ERRVAL` comes from `respond` or the ILLEGAL response, and an OK value is a permitted result. -/
theorem errorCarriesErrvalAndOkARawOfTheType : Obligations.ErrorCarriesErrvalAndOkARawOfTheType := by
  refine fun cfg q => ⟨fun hne => ?errval, fun i h hok => ?raw⟩
  case errval =>
    cases h : decodeRequest q with
    | error e => rw [execRequest_error h]
    | ok i =>
      rw [execRequest_ok h, answer_eq_respond] at hne ⊢
      exact respond_of_status_ne_ok hne
  case raw =>
    obtain ⟨x, hx, hr⟩ := execRequest_eq_respond_permitted cfg h
    rw [hr] at hok ⊢
    obtain ⟨v, rfl, hv⟩ := respond_of_status_eq_ok hok
    obtain ⟨hmin, hmax⟩ := hx
    exact ⟨v, hmin, hmax, hv⟩

end Sys2Proof.Machine
end

section
/-! PROOFS. Reset, held responses and runs (70_reset_and_hazards.md R270, R271, R277, R278, R280): that no step and no
run stops, what a reset drops, what a held response keeps, and what every finite or infinite run delivers. -/
namespace Sys2Proof.Machine

/-! ### Nothing stops -/

theorem exec_answers (i : Instr) (s : State) : ∃ t, exec i s = .next t := by
  rw [exec_eq_accept_answer]
  exact accept_answers s _

/-- Four of the five kinds of step name their next state; the fifth is an `accept`. -/
theorem step_answers (s : State) : ∃ t, step s = .next t := by
  obtain ⟨-, hreset⟩ | ⟨-, -, -, hdeliver⟩ | ⟨-, -, -, hhold⟩ | ⟨-, -, -, htake⟩ | ⟨-, -, -, hquiet⟩ := step_cases s
  · exact ⟨_, hreset⟩
  · exact ⟨_, hdeliver⟩
  · exact ⟨_, hhold⟩
  · rw [htake, takeRequest_eq_accept]
    exact accept_answers _ _
  · exact ⟨_, hquiet⟩

/-- The state after one step, as a function: `step` always answers one. -/
def nextState (s : State) : State :=
  match step s with
  | .next t => t
  | .fault _ => s
  | .refused _ => s

theorem step_eq_nextState (s : State) : step s = .next (nextState s) := by
  obtain ⟨t, h⟩ := step_answers s
  simp [nextState, h]

theorem run_succ (k : Nat) (s : State) : Sys2Proof.core.run (k + 1) s = Sys2Proof.core.run k (nextState s) := by
  have h : Sys2Proof.core.step s = .next (nextState s) := step_eq_nextState s
  simp only [Host.Core.run, h]

theorem neverStops (s : State) : NeverStops s := by
  intro k
  induction k generalizing s with
  | zero => exact ⟨s, rfl⟩
  | succ k ih =>
    rw [run_succ]
    exact ih (nextState s)

/-- Settles O14: `accept` always answers, so every instruction, every step and every run does. -/
theorem nothingEverStops : Obligations.NothingEverStops := ⟨exec_answers, step_answers, neverStops⟩

/-! ### Reset -/

/-- Settles O10: `step` on `rst` is `resetUnit`, which idles the slot and keeps the first of the requests. -/
theorem resetInputForcesIdle : Obligations.ResetInputForcesIdle := by
  intro s hrst
  refine ⟨by simp [reqReady, hrst], by simp [rspValid, hrst], _, step_of_rst hrst, resetUnit_slot _, rfl, ?_, ?_⟩
  · exact List.take_prefix _ _
  · exact fun p hp => reqReady_eq_true_iff.2 ⟨resetUnit_slot _, hp⟩

/-- A pending response is `EXEC` of the last request, and the requests before it are the answered ones. -/
theorem Consistent.pending_last {s : State} {st : Status} {r : Port} {qs : List Request} {q : Request}
    (hs : Consistent s) (hslot : s.slot = .pending st r) (hlast : s.requests = qs ++ [q]) :
    qs.map (execRequest Config.unit) = s.responses ∧ execRequest Config.unit q = { status := st, r := r } := by
  have hall := (consistent_pending_iff hslot).1 hs
  rw [hlast, List.map_append] at hall
  obtain ⟨hanswered, howed⟩ := List.append_inj' hall rfl
  exact ⟨hanswered, List.singleton_inj.1 howed⟩

/-- Settles O11: the dropped response was `EXEC` of the dropped request, and `EXEC` is what it gets again. -/
theorem pendingRequestIsLostAtReset : Obligations.PendingRequestIsLostAtReset := by
  intro s st r qs q hs hslot hlast hrst
  obtain ⟨hanswered, howed⟩ := hs.pending_last hslot hlast
  have hkept : s.requests.take s.responses.length = qs := by
    rw [hlast, ← hanswered, List.length_map, List.take_left]
  refine ⟨resetUnit s.sampled, step_of_rst hrst, resetUnit_slot _, hkept, rfl, _,
    step_accepts (s := presentRequest (resetUnit s.sampled) q) rfl rfl rfl, ?_⟩
  rw [presentRequest_inputs, howed]

/-! ### Held responses -/

/-- What the state after a step is: a reset, a delivery of what was pending, the same slot and records, or an accepted
request with `EXEC` of it pending (10_state.md R28). -/
theorem step_next_cases {s t : State} (h : step s = .next t) :
    t = resetUnit s.sampled ∨ (s.slot ≠ .idle ∧ t = deliver s.sampled) ∨ t = s.sampled ∨
    (reqReady s s.inputs = true ∧ s.inputs.reqValid = true ∧ t = { s.sampled.recordRequest s.inputs.req with
      slot := .pending (execRequest Config.unit s.inputs.req).status (execRequest Config.unit s.inputs.req).r }) := by
  obtain ⟨-, hreset⟩ | ⟨-, hslot, -, hdeliver⟩ | ⟨-, -, -, hhold⟩ | ⟨hrst, hslot, hreq, -⟩ | ⟨-, -, -, hquiet⟩ :=
    step_cases s
  · exact .inl (Host.Outcome.next.inj (h.symm.trans hreset))
  · exact .inr (.inl ⟨hslot, Host.Outcome.next.inj (h.symm.trans hdeliver)⟩)
  · exact .inr (.inr (.inl (Host.Outcome.next.inj (h.symm.trans hhold))))
  · exact .inr (.inr (.inr ⟨reqReady_eq_true_iff.2 ⟨hslot, hrst⟩, hreq,
      Host.Outcome.next.inj (h.symm.trans (step_accepts hrst hslot hreq))⟩))
  · exact .inr (.inr (.inl (Host.Outcome.next.inj (h.symm.trans hquiet))))

/-- Settles O12: a held slot is untouched, `Accept` fills it, and no other step does. -/
theorem heldResponseIsStable : Obligations.HeldResponseIsStable := by
  refine ⟨?held, ?accepted, ?notWithoutAccept⟩
  case held =>
    intro s st r hslot hrst hready
    refine ⟨_, step_of_not_ready hrst hslot hready, fun p hp => ⟨?_, ?_, ?_⟩⟩
    · exact rspValid_eq_true_iff.2 ⟨by simp [hslot], hp⟩
    · rw [rspStatus_of_pending hslot hrst, rspStatus_of_pending (s := s.sampled) hslot hp]
    · rw [rspR_of_pending hslot hrst, rspR_of_pending (s := s.sampled) hslot hp]
  case accepted =>
    intro s hready hreq
    obtain ⟨hslot, hrst⟩ := reqReady_eq_true_iff.1 hready
    exact ⟨_, step_accepts hrst hslot hreq, fun p hp => rspValid_eq_true_iff.2 ⟨nofun, hp⟩⟩
  case notWithoutAccept =>
    intro s t p hstep hvalid
    obtain ⟨hpending, -⟩ := rspValid_eq_true_iff.1 hvalid
    obtain rfl | ⟨hslot, -⟩ | rfl | ⟨hready, hreq, -⟩ := step_next_cases hstep
    · exact absurd (resetUnit_slot _) hpending
    · exact .inl hslot
    · exact .inl hpending
    · exact .inr ⟨hready, hreq⟩

/-! ### What a consistent state has delivered -/

/-- Each delivered pair is a request with `EXEC` of it (70_reset_and_hazards.md R280). -/
theorem Consistent.observation_eq_exec {s : State} (hs : Consistent s) {q : Request} {x : Response}
    (h : (q, x) ∈ s.observation) : x = execRequest Config.unit q := by
  obtain ⟨i, hpair⟩ := List.mem_iff_getElem?.1 h
  obtain ⟨hq, hx⟩ := List.getElem?_zip_eq_some.1 hpair
  obtain ⟨hi, -⟩ := List.getElem?_eq_some_iff.1 hx
  have hexec : (s.requests.map (execRequest Config.unit))[i]? = s.responses[i]? := by
    rw [hs, List.getElem?_append_left hi]
  rw [List.getElem?_map, hq, hx] at hexec
  exact (Option.some.inj hexec).symm

theorem owedResponses_length_le_one (s : State) : (owedResponses s).length ≤ 1 := by
  cases hslot : s.slot with
  | idle => simp [owedResponses_idle hslot]
  | pending st r => simp [owedResponses_pending hslot]

theorem quiescent_iff_owes_nothing {s : State} : s.quiescent = true ↔ (owedResponses s).length = 0 := by
  cases hslot : s.slot with
  | idle => simp [State.quiescent, hslot, owedResponses_idle hslot]
  | pending st r => simp [State.quiescent, hslot, owedResponses_pending hslot]

theorem Consistent.requests_length {s : State} (hs : Consistent s) :
    s.requests.length = s.responses.length + (owedResponses s).length := by
  simpa using congrArg List.length hs

/-! ### What every step of a run keeps -/

/-- What was delivered stays delivered. -/
theorem responses_prefix_of_step {s t : State} (h : step s = .next t) : s.responses <+: t.responses := by
  obtain rfl | ⟨hslot, rfl⟩ | rfl | ⟨-, -, rfl⟩ := step_next_cases h
  · exact List.prefix_refl _
  · cases hs : s.slot with
    | idle => exact absurd hs hslot
    | pending st r =>
      rw [deliver_pending s.sampled st r hs]
      exact List.prefix_append _ _
  · exact List.prefix_refl _
  · exact List.prefix_refl _

/-- The state `t` is one a run from `s` may reach: it owes and has delivered what it should, and it has delivered what
`s` had. -/
def Continues (s t : State) : Prop := Consistent t ∧ s.responses <+: t.responses

theorem Continues.refl {s : State} (hs : Consistent s) : Continues s s := ⟨hs, List.prefix_refl _⟩

theorem Continues.step {s t u : State} (h : Continues s t) (hstep : step t = .next u) : Continues s u := by
  obtain ⟨hconsistent, hprefix⟩ := h
  exact ⟨stepKeepsResponsesConsistent t u hconsistent hstep, hprefix.trans (responses_prefix_of_step hstep)⟩

/-- What the host drives touches neither the slot nor the records. -/
theorem continues_driven_iff {s t : State} {p : PortInputs} : Continues s (t.driven p) ↔ Continues s t := Iff.rfl

theorem Continues.of_run {s t u : State} {k : Nat} (h : Continues s t) (hrun : Sys2Proof.core.run k t = .next u) :
    Continues s u := by
  induction k generalizing t with
  | zero => exact Host.Outcome.next.inj hrun ▸ h
  | succ k ih =>
    rw [run_succ] at hrun
    exact ih (h.step (step_eq_nextState t)) hrun

theorem Continues.of_infiniteRun {ins : Nat → PortInputs} {ss : Nat → State} {s : State} {m n : Nat}
    (hrun : InfiniteRun ins ss) (hmn : m ≤ n) (h : Continues s (ss m)) : Continues s (ss n) := by
  induction n, hmn using Nat.le_induction with
  | base => exact h
  | succ n _ ih => exact (continues_driven_iff.2 ih).step (hrun.moves n)

/-- The observation so far, in the terms of 70_reset_and_hazards.md R280. -/
theorem Continues.delivered {s t : State} (h : Continues s t) :
    (∀ q x, (q, x) ∈ t.observation → x = execRequest Config.unit q) ∧ s.responses <+: t.responses ∧
      t.responses.length ≤ t.requests.length ∧ t.requests.length ≤ t.responses.length + 1 ∧
        (t.quiescent = true ↔ t.requests.length = t.responses.length) := by
  obtain ⟨hconsistent, hprefix⟩ := h
  have hlength := hconsistent.requests_length
  have howed := owedResponses_length_le_one t
  refine ⟨fun q x => hconsistent.observation_eq_exec, hprefix, by omega, by omega, ?_⟩
  rw [quiescent_iff_owes_nothing]
  omega

/-! ### Infinite runs -/

/-- The states of the unit from `s` on, when the host drives `ins n` at moment `n`. -/
def statesFrom (ins : Nat → PortInputs) (s : State) : Nat → State
  | 0 => s
  | n + 1 => nextState ((statesFrom ins s n).driven (ins n))

theorem infiniteRun_statesFrom (ins : Nat → PortInputs) {s : State} (hslot : s.slot = .idle) :
    InfiniteRun ins (statesFrom ins s) :=
  ⟨hslot, fun _ => step_eq_nextState _⟩

/-- The host presents a request and takes the response, both at once (30_encoding.md R61). -/
def PortInputs.eager (q : Request) : PortInputs := { rst := false, reqValid := true, req := q, rspReady := true }

section Eager
variable {reqs : Nat → Request} {ss : Nat → State}

/-- With an eager host an idle unit accepts the request. -/
theorem InfiniteRun.eager_accept (hrun : InfiniteRun (fun n => .eager (reqs n)) ss) {n : Nat}
    (hslot : (ss n).slot = .idle) :
    (ss (n + 1)).slot = .pending (execRequest Config.unit (reqs n)).status (execRequest Config.unit (reqs n)).r ∧
      (ss (n + 1)).responses = (ss n).responses := by
  have haccept := step_accepts (s := (ss n).driven (.eager (reqs n))) rfl hslot rfl
  have hnext := Host.Outcome.next.inj ((hrun.moves n).symm.trans haccept)
  exact ⟨congrArg State.slot hnext, by simp [hnext]⟩

/-- With an eager host a pending response is delivered. -/
theorem InfiniteRun.eager_deliver (hrun : InfiniteRun (fun n => .eager (reqs n)) ss) {n : Nat} {st : Status}
    {r : Port} (hslot : (ss n).slot = .pending st r) :
    (ss (n + 1)).slot = .idle ∧ (ss (n + 1)).responses = (ss n).responses ++ [{ status := st, r := r }] := by
  have hdeliver := step_of_ready (s := (ss n).driven (.eager (reqs n))) rfl hslot rfl
  rw [deliver_pending ((ss n).driven (.eager (reqs n))).sampled st r hslot] at hdeliver
  have hnext := Host.Outcome.next.inj ((hrun.moves n).symm.trans hdeliver)
  exact ⟨congrArg State.slot hnext, by simp [hnext]⟩

theorem InfiniteRun.eager_idle (hrun : InfiniteRun (fun n => .eager (reqs n)) ss) (n : Nat) :
    (ss (2 * n)).slot = .idle := by
  induction n with
  | zero => exact hrun.starts
  | succ n ih =>
    obtain ⟨hpending, -⟩ := hrun.eager_accept ih
    obtain ⟨hidle, -⟩ := hrun.eager_deliver hpending
    exact hidle

end Eager

/-- Settles O18: finite and infinite runs keep `Continues`, every host has its `statesFrom`, and an eager host sees
`Accept` and `Deliver` in turn. -/
theorem everyRunDeliversExecOfItsRequests : Obligations.EveryRunDeliversExecOfItsRequests := by
  refine ⟨?finite, ?infinite, ?anyHost, ?eagerHost⟩
  case finite =>
    intro k s t hs hrun
    exact ((Continues.refl hs).of_run hrun).delivered
  case infinite =>
    intro ins ss hrun hs m n hmn
    obtain ⟨hm, -⟩ := (Continues.refl hs).of_infiniteRun hrun (Nat.zero_le m)
    exact ((Continues.refl hm).of_infiniteRun hrun hmn).delivered
  case anyHost =>
    intro ins s hslot
    exact ⟨statesFrom ins s, rfl, infiniteRun_statesFrom ins hslot⟩
  case eagerHost =>
    intro reqs ss hrun n
    have heager : InfiniteRun (fun n => .eager (reqs n)) ss := hrun
    have hidle := heager.eager_idle n
    obtain ⟨hpending, hkept⟩ := heager.eager_accept hidle
    obtain ⟨-, hdelivered⟩ := heager.eager_deliver hpending
    exact ⟨hidle, by simp [hpending], by rw [hdelivered, hkept]⟩

end Sys2Proof.Machine
end
